-- ==== Sys2Proof/Word.lean ====
section
/-! DEFINITION. The word types of Rosetta-6502 CORE: the 8-bit data width, the 16-bit address width and
the 3-bit AccessType mask (00_scope.md R4, R5; 10_state.md R27). -/

namespace Sys2Proof

/-- An 8-bit value: A, X, Y, SP, PS, a memory byte, an opcode, an 8-bit operand (R4). -/
abbrev Byte := BitVec 8

/-- A 16-bit value: PC and every address (R4). -/
abbrev Word := BitVec 16

/-- A 3-bit AccessType mask: bit 0 is RAM, bit 1 is ROM, bit 2 is MMIO; NONE is 0 (R27). -/
abbrev AccessMask := BitVec 3

end Sys2Proof
end

