-- ==== Sys2Proof/Machine/Forms.lean ====
section
/-! DEFINITION. The vocabulary of spec/opcode_table.json: the 56 mnemonics (30_encoding.md R86), the 13
addressing modes (R81), and the operand forms with the operand bytes they carry. -/

namespace Sys2Proof

/-- The 56 mnemonics of the default map (R86), spelled as the opcode table spells them. -/
inductive Mnemonic where
  | LDA | LDX | LDY | STA | STX | STY
  | ADC | SBC
  | AND | ORA | EOR | BIT
  | CMP | CPX | CPY
  | ASL | LSR | ROL | ROR
  | INC | DEC | INX | INY | DEX | DEY
  | BCC | BCS | BEQ | BNE | BMI | BPL | BVC | BVS
  | PHA | PLA | PHP | PLP | JSR | RTS | RTI | BRK | JMP
  | CLC | SEC | CLD | SED | CLI | SEI | CLV | NOP
  | TAX | TAY | TXA | TYA | TSX | TXS
  deriving DecidableEq, Repr

/-- The 13 addressing modes, which are also the instruction formats (R81). -/
inductive Mode where
  | imp | acc | imm | zp | zpx | zpy | abs | absx | absy | ind | indx | indy | rel
  deriving DecidableEq, Repr

/-- A form that names one memory cell at an effective address (40_engine_and_addressing.md R113 to R118,
R120, R121), with its operand: a page-0 byte or a 16-bit base. -/
inductive MemForm where
  | zp (b : Byte)
  | zpx (b : Byte)
  | zpy (b : Byte)
  | abs (w : Word)
  | absx (w : Word)
  | absy (w : Word)
  | indx (b : Byte)
  | indy (b : Byte)
  deriving DecidableEq, Repr

/-- The operand of an instruction, one alternative per format; the eight memory forms stand under `mem`. -/
inductive Operand where
  | imp
  | acc
  | imm (v : Byte)
  | mem (m : MemForm)
  | ind (p : Word)
  | rel (off : Byte)
  deriving DecidableEq, Repr

/-- A read operand (R124): an immediate value or a memory cell. -/
inductive ReadForm where
  | imm (v : Byte)
  | mem (m : MemForm)
  deriving DecidableEq, Repr

/-- The operand of a shift or rotate (45_shift_rotate.md R170): A or a memory cell. -/
inductive RmwForm where
  | acc
  | mem (m : MemForm)
  deriving DecidableEq, Repr

/-- The format of a memory form. -/
def MemForm.mode : MemForm → Mode
  | .zp _ => .zp
  | .zpx _ => .zpx
  | .zpy _ => .zpy
  | .abs _ => .abs
  | .absx _ => .absx
  | .absy _ => .absy
  | .indx _ => .indx
  | .indy _ => .indy

/-- The format of an operand. -/
def Operand.mode : Operand → Mode
  | .imp => .imp
  | .acc => .acc
  | .imm _ => .imm
  | .mem m => m.mode
  | .ind _ => .ind
  | .rel _ => .rel

/-- A read operand as an operand. -/
def ReadForm.operand : ReadForm → Operand
  | .imm v => .imm v
  | .mem m => .mem m

/-- A shift operand as an operand. -/
def RmwForm.operand : RmwForm → Operand
  | .acc => .acc
  | .mem m => .mem m

/-- The length in bytes of an instruction of each format (R81). -/
def Mode.length : Mode → Nat
  | .imp => 1
  | .acc => 1
  | .imm => 2
  | .zp => 2
  | .zpx => 2
  | .zpy => 2
  | .abs => 3
  | .absx => 3
  | .absy => 3
  | .ind => 3
  | .indx => 2
  | .indy => 2
  | .rel => 2

/-- The formats each mnemonic has in the default map: the rows of R86's table. -/
def Mnemonic.modes : Mnemonic → List Mode
  | .LDA | .ADC | .SBC | .AND | .ORA | .EOR | .CMP =>
    [.imm, .zp, .zpx, .abs, .absx, .absy, .indx, .indy]
  | .LDX => [.imm, .zp, .zpy, .abs, .absy]
  | .LDY => [.imm, .zp, .zpx, .abs, .absx]
  | .STA => [.zp, .zpx, .abs, .absx, .absy, .indx, .indy]
  | .STX => [.zp, .zpy, .abs]
  | .STY => [.zp, .zpx, .abs]
  | .BIT => [.zp, .abs]
  | .CPX | .CPY => [.imm, .zp, .abs]
  | .ASL | .LSR | .ROL | .ROR => [.acc, .zp, .zpx, .abs, .absx]
  | .INC | .DEC => [.zp, .zpx, .abs, .absx]
  | .BCC | .BCS | .BEQ | .BNE | .BMI | .BPL | .BVC | .BVS => [.rel]
  | .JSR => [.abs]
  | .JMP => [.abs, .ind]
  | .INX | .INY | .DEX | .DEY | .PHA | .PLA | .PHP | .PLP | .RTS | .RTI | .BRK
  | .CLC | .SEC | .CLD | .SED | .CLI | .SEI | .CLV | .NOP
  | .TAX | .TAY | .TXA | .TYA | .TSX | .TXS => [.imp]

end Sys2Proof
end

