-- ==== Sys2Proof/Config.lean ====
section
/-! DEFINITION. The configuration parameters of 00_scope.md R4 as plain data with their defaults, and the free
values: what a device answers and what a register holds before the first reset. -/

namespace Sys2Proof

/-- The three region kinds of the bus (20_memory.md R42). -/
inductive Region where
  | ram
  | rom
  | mmio
  deriving DecidableEq, Repr

/-- A range of addresses of one region kind, both ends inclusive. -/
structure RegionRange where
  lo : Word
  hi : Word
  kind : Region
  deriving DecidableEq, Repr

/-- A device record: name and address range, both ends inclusive (20_memory.md R49). Its callbacks are no
data of the core: a read answers a free byte (`Config.deviceByte`), a write leaves no trace but its event (R50). -/
structure Device where
  name : String
  lo : Word
  hi : Word
  deriving DecidableEq, Repr

/-- The penalties of `CYCLES(op)` (00_scope.md R4; log entry 2): the cycles of the first penalty Execute returns (a read
that crosses a page, 70_reset_and_hazards.md R292; an indexed store, R293; a branch taken, 47_branch.md R190), and the
further cycles of a second one (a branch taken to another page, R190). -/
structure Penalty where
  first : Nat
  second : Nat
  deriving DecidableEq, Repr

/-- One row of the opcode table: the opcode byte, the mnemonic and format OPMAP gives it (30_encoding.md R86),
its ACCESS_OF mask (R90) and its CYCLES: the base cost (70_reset_and_hazards.md R290) and the penalties. -/
structure OpRow where
  opcode : Byte
  mnemonic : Mnemonic
  mode : Mode
  access : AccessMask
  base : Nat
  penalty : Penalty
  deriving DecidableEq, Repr

/-- STORE_INDEXED_PENALTY (70_reset_and_hazards.md R293). -/
inductive StorePenalty where
  | always
  | never
  deriving DecidableEq, Repr

/-- The configuration of one instance (00_scope.md R4). REGION is total: an address in none of `regions` has
the kind `elsewhere`. OPMAP, ACCESS_OF and CYCLES stand together in `ops`; an opcode with no row is illegal. -/
structure Config where
  regions : List RegionRange
  elsewhere : Region
  devices : List Device
  ops : List OpRow
  fetchAccess : AccessMask
  storePenalty : StorePenalty
  deriving DecidableEq, Repr

/-- FREE VALUE (20_memory.md R50; 93_implementation_defined.md U5, "any value"; log entry 1): the byte device
`device` answers to the read of address `addr` that is the `draw`-th draw of the run. Nothing is known of it. -/
opaque Config.deviceByte (draw device : Nat) (addr : Word) : Byte

/-- FREE VALUE (10_state.md R30, "the registers hold no value"; log entry 6): what the `k`-th 8-bit register
holds between power-on and the first reset. -/
opaque Config.powerOnByte (k : Nat) : Byte

/-- FREE VALUE (10_state.md R30; log entry 6): what PC holds between power-on and the first reset. -/
opaque Config.powerOnWord : Word

/-- AccessType RAM OR ROM, the class CODE of 30_encoding.md R90 and the default FETCH_ACCESS. -/
def Config.codeAccess : AccessMask := 0b011

/-- AccessType RAM OR ROM OR MMIO, the class DATA of 30_encoding.md R90. -/
def Config.dataAccess : AccessMask := 0b111

/-- AccessType NONE (10_state.md R27). -/
def Config.noAccess : AccessMask := 0b000

/-- The penalties of an opcode that pays none (70_reset_and_hazards.md R290). -/
def Config.noPenalty : Penalty := ⟨0, 0⟩

/-- The penalty `p` of R290's table, a read that crosses a page: 1 cycle (R292). -/
def Config.pageCross : Penalty := ⟨1, 0⟩

/-- The penalty `s` of R290's table, an indexed store: 1 cycle (R293). -/
def Config.storeIndexed : Penalty := ⟨1, 0⟩

/-- The penalty `b` of R290's table, a branch: 1 cycle taken, 1 more to another page (47_branch.md R190). -/
def Config.branchTaken : Penalty := ⟨1, 1⟩

/-- The default partition (20_memory.md R43). -/
def Config.defaultRegions : List RegionRange :=
  [⟨0x0000, 0xCFFF, .ram⟩, ⟨0xD000, 0xDFFF, .mmio⟩, ⟨0xE000, 0xFFFF, .rom⟩]

/-- The default rows of LDA, LDX, LDY, STA, STX, STY: opcode, mnemonic, format, access class (R90), base cycles and penalties (R290). -/
def Config.opsLoadStore : List OpRow :=
  [⟨0xA9, .LDA, .imm, Config.codeAccess, 2, Config.noPenalty⟩,
   ⟨0xA5, .LDA, .zp, Config.dataAccess, 3, Config.noPenalty⟩,
   ⟨0xB5, .LDA, .zpx, Config.dataAccess, 4, Config.noPenalty⟩,
   ⟨0xAD, .LDA, .abs, Config.dataAccess, 4, Config.noPenalty⟩,
   ⟨0xBD, .LDA, .absx, Config.dataAccess, 4, Config.pageCross⟩,
   ⟨0xB9, .LDA, .absy, Config.dataAccess, 4, Config.pageCross⟩,
   ⟨0xA1, .LDA, .indx, Config.dataAccess, 6, Config.noPenalty⟩,
   ⟨0xB1, .LDA, .indy, Config.dataAccess, 5, Config.pageCross⟩,
   ⟨0xA2, .LDX, .imm, Config.codeAccess, 2, Config.noPenalty⟩,
   ⟨0xA6, .LDX, .zp, Config.dataAccess, 3, Config.noPenalty⟩,
   ⟨0xB6, .LDX, .zpy, Config.dataAccess, 4, Config.noPenalty⟩,
   ⟨0xAE, .LDX, .abs, Config.dataAccess, 4, Config.noPenalty⟩,
   ⟨0xBE, .LDX, .absy, Config.dataAccess, 4, Config.pageCross⟩,
   ⟨0xA0, .LDY, .imm, Config.codeAccess, 2, Config.noPenalty⟩,
   ⟨0xA4, .LDY, .zp, Config.dataAccess, 3, Config.noPenalty⟩,
   ⟨0xB4, .LDY, .zpx, Config.dataAccess, 4, Config.noPenalty⟩,
   ⟨0xAC, .LDY, .abs, Config.dataAccess, 4, Config.noPenalty⟩,
   ⟨0xBC, .LDY, .absx, Config.dataAccess, 4, Config.pageCross⟩,
   ⟨0x85, .STA, .zp, Config.dataAccess, 3, Config.noPenalty⟩,
   ⟨0x95, .STA, .zpx, Config.dataAccess, 4, Config.noPenalty⟩,
   ⟨0x8D, .STA, .abs, Config.dataAccess, 4, Config.noPenalty⟩,
   ⟨0x9D, .STA, .absx, Config.dataAccess, 4, Config.storeIndexed⟩,
   ⟨0x99, .STA, .absy, Config.dataAccess, 4, Config.storeIndexed⟩,
   ⟨0x81, .STA, .indx, Config.dataAccess, 6, Config.noPenalty⟩,
   ⟨0x91, .STA, .indy, Config.dataAccess, 5, Config.storeIndexed⟩,
   ⟨0x86, .STX, .zp, Config.dataAccess, 3, Config.noPenalty⟩,
   ⟨0x96, .STX, .zpy, Config.dataAccess, 4, Config.noPenalty⟩,
   ⟨0x8E, .STX, .abs, Config.dataAccess, 4, Config.noPenalty⟩,
   ⟨0x84, .STY, .zp, Config.dataAccess, 3, Config.noPenalty⟩,
   ⟨0x94, .STY, .zpx, Config.dataAccess, 4, Config.noPenalty⟩,
   ⟨0x8C, .STY, .abs, Config.dataAccess, 4, Config.noPenalty⟩]

/-- The default rows of ADC, SBC: opcode, mnemonic, format, access class (R90), base cycles and penalties (R290). -/
def Config.opsArithmetic : List OpRow :=
  [⟨0x69, .ADC, .imm, Config.codeAccess, 2, Config.noPenalty⟩,
   ⟨0x65, .ADC, .zp, Config.dataAccess, 3, Config.noPenalty⟩,
   ⟨0x75, .ADC, .zpx, Config.dataAccess, 4, Config.noPenalty⟩,
   ⟨0x6D, .ADC, .abs, Config.dataAccess, 4, Config.noPenalty⟩,
   ⟨0x7D, .ADC, .absx, Config.dataAccess, 4, Config.pageCross⟩,
   ⟨0x79, .ADC, .absy, Config.dataAccess, 4, Config.pageCross⟩,
   ⟨0x61, .ADC, .indx, Config.dataAccess, 6, Config.noPenalty⟩,
   ⟨0x71, .ADC, .indy, Config.dataAccess, 5, Config.pageCross⟩,
   ⟨0xE9, .SBC, .imm, Config.codeAccess, 2, Config.noPenalty⟩,
   ⟨0xE5, .SBC, .zp, Config.dataAccess, 3, Config.noPenalty⟩,
   ⟨0xF5, .SBC, .zpx, Config.dataAccess, 4, Config.noPenalty⟩,
   ⟨0xED, .SBC, .abs, Config.dataAccess, 4, Config.noPenalty⟩,
   ⟨0xFD, .SBC, .absx, Config.dataAccess, 4, Config.pageCross⟩,
   ⟨0xF9, .SBC, .absy, Config.dataAccess, 4, Config.pageCross⟩,
   ⟨0xE1, .SBC, .indx, Config.dataAccess, 6, Config.noPenalty⟩,
   ⟨0xF1, .SBC, .indy, Config.dataAccess, 5, Config.pageCross⟩]

/-- The default rows of AND, ORA, EOR, BIT: opcode, mnemonic, format, access class (R90), base cycles and penalties (R290). -/
def Config.opsLogical : List OpRow :=
  [⟨0x29, .AND, .imm, Config.codeAccess, 2, Config.noPenalty⟩,
   ⟨0x25, .AND, .zp, Config.dataAccess, 3, Config.noPenalty⟩,
   ⟨0x35, .AND, .zpx, Config.dataAccess, 4, Config.noPenalty⟩,
   ⟨0x2D, .AND, .abs, Config.dataAccess, 4, Config.noPenalty⟩,
   ⟨0x3D, .AND, .absx, Config.dataAccess, 4, Config.pageCross⟩,
   ⟨0x39, .AND, .absy, Config.dataAccess, 4, Config.pageCross⟩,
   ⟨0x21, .AND, .indx, Config.dataAccess, 6, Config.noPenalty⟩,
   ⟨0x31, .AND, .indy, Config.dataAccess, 5, Config.pageCross⟩,
   ⟨0x09, .ORA, .imm, Config.codeAccess, 2, Config.noPenalty⟩,
   ⟨0x05, .ORA, .zp, Config.dataAccess, 3, Config.noPenalty⟩,
   ⟨0x15, .ORA, .zpx, Config.dataAccess, 4, Config.noPenalty⟩,
   ⟨0x0D, .ORA, .abs, Config.dataAccess, 4, Config.noPenalty⟩,
   ⟨0x1D, .ORA, .absx, Config.dataAccess, 4, Config.pageCross⟩,
   ⟨0x19, .ORA, .absy, Config.dataAccess, 4, Config.pageCross⟩,
   ⟨0x01, .ORA, .indx, Config.dataAccess, 6, Config.noPenalty⟩,
   ⟨0x11, .ORA, .indy, Config.dataAccess, 5, Config.pageCross⟩,
   ⟨0x49, .EOR, .imm, Config.codeAccess, 2, Config.noPenalty⟩,
   ⟨0x45, .EOR, .zp, Config.dataAccess, 3, Config.noPenalty⟩,
   ⟨0x55, .EOR, .zpx, Config.dataAccess, 4, Config.noPenalty⟩,
   ⟨0x4D, .EOR, .abs, Config.dataAccess, 4, Config.noPenalty⟩,
   ⟨0x5D, .EOR, .absx, Config.dataAccess, 4, Config.pageCross⟩,
   ⟨0x59, .EOR, .absy, Config.dataAccess, 4, Config.pageCross⟩,
   ⟨0x41, .EOR, .indx, Config.dataAccess, 6, Config.noPenalty⟩,
   ⟨0x51, .EOR, .indy, Config.dataAccess, 5, Config.pageCross⟩,
   ⟨0x24, .BIT, .zp, Config.dataAccess, 3, Config.noPenalty⟩,
   ⟨0x2C, .BIT, .abs, Config.dataAccess, 4, Config.noPenalty⟩]

/-- The default rows of CMP, CPX, CPY: opcode, mnemonic, format, access class (R90), base cycles and penalties (R290). -/
def Config.opsCompare : List OpRow :=
  [⟨0xC9, .CMP, .imm, Config.codeAccess, 2, Config.noPenalty⟩,
   ⟨0xC5, .CMP, .zp, Config.dataAccess, 3, Config.noPenalty⟩,
   ⟨0xD5, .CMP, .zpx, Config.dataAccess, 4, Config.noPenalty⟩,
   ⟨0xCD, .CMP, .abs, Config.dataAccess, 4, Config.noPenalty⟩,
   ⟨0xDD, .CMP, .absx, Config.dataAccess, 4, Config.pageCross⟩,
   ⟨0xD9, .CMP, .absy, Config.dataAccess, 4, Config.pageCross⟩,
   ⟨0xC1, .CMP, .indx, Config.dataAccess, 6, Config.noPenalty⟩,
   ⟨0xD1, .CMP, .indy, Config.dataAccess, 5, Config.pageCross⟩,
   ⟨0xE0, .CPX, .imm, Config.codeAccess, 2, Config.noPenalty⟩,
   ⟨0xE4, .CPX, .zp, Config.dataAccess, 3, Config.noPenalty⟩,
   ⟨0xEC, .CPX, .abs, Config.dataAccess, 4, Config.noPenalty⟩,
   ⟨0xC0, .CPY, .imm, Config.codeAccess, 2, Config.noPenalty⟩,
   ⟨0xC4, .CPY, .zp, Config.dataAccess, 3, Config.noPenalty⟩,
   ⟨0xCC, .CPY, .abs, Config.dataAccess, 4, Config.noPenalty⟩]

/-- The default rows of ASL, LSR, ROL, ROR: opcode, mnemonic, format, access class (R90), base cycles and penalties (R290). -/
def Config.opsShiftRotate : List OpRow :=
  [⟨0x0A, .ASL, .acc, Config.codeAccess, 2, Config.noPenalty⟩,
   ⟨0x06, .ASL, .zp, Config.dataAccess, 5, Config.noPenalty⟩,
   ⟨0x16, .ASL, .zpx, Config.dataAccess, 6, Config.noPenalty⟩,
   ⟨0x0E, .ASL, .abs, Config.dataAccess, 6, Config.noPenalty⟩,
   ⟨0x1E, .ASL, .absx, Config.dataAccess, 7, Config.noPenalty⟩,
   ⟨0x4A, .LSR, .acc, Config.codeAccess, 2, Config.noPenalty⟩,
   ⟨0x46, .LSR, .zp, Config.dataAccess, 5, Config.noPenalty⟩,
   ⟨0x56, .LSR, .zpx, Config.dataAccess, 6, Config.noPenalty⟩,
   ⟨0x4E, .LSR, .abs, Config.dataAccess, 6, Config.noPenalty⟩,
   ⟨0x5E, .LSR, .absx, Config.dataAccess, 7, Config.noPenalty⟩,
   ⟨0x2A, .ROL, .acc, Config.codeAccess, 2, Config.noPenalty⟩,
   ⟨0x26, .ROL, .zp, Config.dataAccess, 5, Config.noPenalty⟩,
   ⟨0x36, .ROL, .zpx, Config.dataAccess, 6, Config.noPenalty⟩,
   ⟨0x2E, .ROL, .abs, Config.dataAccess, 6, Config.noPenalty⟩,
   ⟨0x3E, .ROL, .absx, Config.dataAccess, 7, Config.noPenalty⟩,
   ⟨0x6A, .ROR, .acc, Config.codeAccess, 2, Config.noPenalty⟩,
   ⟨0x66, .ROR, .zp, Config.dataAccess, 5, Config.noPenalty⟩,
   ⟨0x76, .ROR, .zpx, Config.dataAccess, 6, Config.noPenalty⟩,
   ⟨0x6E, .ROR, .abs, Config.dataAccess, 6, Config.noPenalty⟩,
   ⟨0x7E, .ROR, .absx, Config.dataAccess, 7, Config.noPenalty⟩]

/-- The default rows of INC, DEC, INX, INY, DEX, DEY: opcode, mnemonic, format, access class (R90), base cycles and penalties (R290). -/
def Config.opsIncDec : List OpRow :=
  [⟨0xE6, .INC, .zp, Config.dataAccess, 5, Config.noPenalty⟩,
   ⟨0xF6, .INC, .zpx, Config.dataAccess, 6, Config.noPenalty⟩,
   ⟨0xEE, .INC, .abs, Config.dataAccess, 6, Config.noPenalty⟩,
   ⟨0xFE, .INC, .absx, Config.dataAccess, 7, Config.noPenalty⟩,
   ⟨0xC6, .DEC, .zp, Config.dataAccess, 5, Config.noPenalty⟩,
   ⟨0xD6, .DEC, .zpx, Config.dataAccess, 6, Config.noPenalty⟩,
   ⟨0xCE, .DEC, .abs, Config.dataAccess, 6, Config.noPenalty⟩,
   ⟨0xDE, .DEC, .absx, Config.dataAccess, 7, Config.noPenalty⟩,
   ⟨0xE8, .INX, .imp, Config.codeAccess, 2, Config.noPenalty⟩,
   ⟨0xC8, .INY, .imp, Config.codeAccess, 2, Config.noPenalty⟩,
   ⟨0xCA, .DEX, .imp, Config.codeAccess, 2, Config.noPenalty⟩,
   ⟨0x88, .DEY, .imp, Config.codeAccess, 2, Config.noPenalty⟩]

/-- The default rows of BCC, BCS, BEQ, BNE, BMI, BPL, BVC, BVS: opcode, mnemonic, format, access class (R90), base cycles and penalties (R290). -/
def Config.opsBranch : List OpRow :=
  [⟨0x90, .BCC, .rel, Config.codeAccess, 2, Config.branchTaken⟩,
   ⟨0xB0, .BCS, .rel, Config.codeAccess, 2, Config.branchTaken⟩,
   ⟨0xF0, .BEQ, .rel, Config.codeAccess, 2, Config.branchTaken⟩,
   ⟨0xD0, .BNE, .rel, Config.codeAccess, 2, Config.branchTaken⟩,
   ⟨0x30, .BMI, .rel, Config.codeAccess, 2, Config.branchTaken⟩,
   ⟨0x10, .BPL, .rel, Config.codeAccess, 2, Config.branchTaken⟩,
   ⟨0x50, .BVC, .rel, Config.codeAccess, 2, Config.branchTaken⟩,
   ⟨0x70, .BVS, .rel, Config.codeAccess, 2, Config.branchTaken⟩]

/-- The default rows of PHA, PLA, PHP, PLP, JSR, RTS, RTI, BRK, JMP: opcode, mnemonic, format, access class (R90), base cycles and penalties (R290). -/
def Config.opsStackControl : List OpRow :=
  [⟨0x48, .PHA, .imp, Config.codeAccess, 3, Config.noPenalty⟩,
   ⟨0x68, .PLA, .imp, Config.codeAccess, 4, Config.noPenalty⟩,
   ⟨0x08, .PHP, .imp, Config.codeAccess, 3, Config.noPenalty⟩,
   ⟨0x28, .PLP, .imp, Config.codeAccess, 4, Config.noPenalty⟩,
   ⟨0x20, .JSR, .abs, Config.codeAccess, 6, Config.noPenalty⟩,
   ⟨0x60, .RTS, .imp, Config.codeAccess, 6, Config.noPenalty⟩,
   ⟨0x40, .RTI, .imp, Config.codeAccess, 6, Config.noPenalty⟩,
   ⟨0x00, .BRK, .imp, Config.codeAccess, 7, Config.noPenalty⟩,
   ⟨0x4C, .JMP, .abs, Config.codeAccess, 3, Config.noPenalty⟩,
   ⟨0x6C, .JMP, .ind, Config.codeAccess, 5, Config.noPenalty⟩]

/-- The default rows of CLC, SEC, CLD, SED, CLI, SEI, CLV, NOP, TAX, TAY, TXA, TYA, TSX, TXS: opcode, mnemonic, format, access class (R90), base cycles and penalties (R290). -/
def Config.opsFlagsNopTransfers : List OpRow :=
  [⟨0x18, .CLC, .imp, Config.codeAccess, 2, Config.noPenalty⟩,
   ⟨0x38, .SEC, .imp, Config.codeAccess, 2, Config.noPenalty⟩,
   ⟨0xD8, .CLD, .imp, Config.codeAccess, 2, Config.noPenalty⟩,
   ⟨0xF8, .SED, .imp, Config.codeAccess, 2, Config.noPenalty⟩,
   ⟨0x58, .CLI, .imp, Config.codeAccess, 2, Config.noPenalty⟩,
   ⟨0x78, .SEI, .imp, Config.codeAccess, 2, Config.noPenalty⟩,
   ⟨0xB8, .CLV, .imp, Config.codeAccess, 2, Config.noPenalty⟩,
   ⟨0xEA, .NOP, .imp, Config.codeAccess, 2, Config.noPenalty⟩,
   ⟨0xAA, .TAX, .imp, Config.codeAccess, 2, Config.noPenalty⟩,
   ⟨0xA8, .TAY, .imp, Config.codeAccess, 2, Config.noPenalty⟩,
   ⟨0x8A, .TXA, .imp, Config.codeAccess, 2, Config.noPenalty⟩,
   ⟨0x98, .TYA, .imp, Config.codeAccess, 2, Config.noPenalty⟩,
   ⟨0xBA, .TSX, .imp, Config.codeAccess, 2, Config.noPenalty⟩,
   ⟨0x9A, .TXS, .imp, Config.codeAccess, 2, Config.noPenalty⟩]

/-- The default opcode table: the 151 rows of spec/opcode_table.json (R86, R90, R290). -/
def Config.defaultOps : List OpRow :=
  Config.opsLoadStore
    ++ Config.opsArithmetic
    ++ Config.opsLogical
    ++ Config.opsCompare
    ++ Config.opsShiftRotate
    ++ Config.opsIncDec
    ++ Config.opsBranch
    ++ Config.opsStackControl
    ++ Config.opsFlagsNopTransfers

/-- The default configuration (00_scope.md R4): no device, the default partition and table, FETCH_ACCESS
RAM OR ROM, STORE_INDEXED_PENALTY always. -/
def Config.default : Config where
  regions := Config.defaultRegions
  elsewhere := .ram
  devices := []
  ops := Config.defaultOps
  fetchAccess := Config.codeAccess
  storePenalty := .always

/-- The reset vector's address (00_scope.md R4, low byte; the high byte at the next address). -/
def Config.resetVector : Word := 0xFFFC

/-- The IRQ/BRK vector's address (00_scope.md R4). -/
def Config.breakVector : Word := 0xFFFE

/-- SP after reset (00_scope.md R4). -/
def Config.resetSp : Byte := 0xFD

/-- What a denied MMIO read answers (00_scope.md R4). -/
def Config.deniedByte : Byte := 0xFF

/-- What a permitted MMIO read that matches no device answers (00_scope.md R4). -/
def Config.unmatchedByte : Byte := 0x00

/-- DEVICES has at most 64 records (00_scope.md R4). -/
def Config.maxDevices : Nat := 64

end Sys2Proof
end

