-- ==== Sys2Proof/Syntax.lean ====
section
/-! DEFINITION. The instructions of Rosetta-6502 CORE: one constructor per row of spec/opcode_table.json
(30_encoding.md R86), with the row's operand already assembled (R83, R84), and the two views that say which
mnemonic and which operand form a constructor stands for. -/

namespace Sys2Proof

/-- One constructor per row of the opcode table. A mnemonic with several formats has one constructor per
format, its name ending in the format's name; the operand is the instruction's operand byte or its 16-bit
operand. -/
inductive Instr where
  /-- LDA imm, opcode 0xA9 (R131, R112). -/
  | ldaImm (v : Byte)
  /-- LDA zp, opcode 0xA5 (R131, R113). -/
  | ldaZp (b : Byte)
  /-- LDA zpx, opcode 0xB5 (R131, R114). -/
  | ldaZpx (b : Byte)
  /-- LDA abs, opcode 0xAD (R131, R116). -/
  | ldaAbs (w : Word)
  /-- LDA absx, opcode 0xBD (R131, R117). -/
  | ldaAbsx (w : Word)
  /-- LDA absy, opcode 0xB9 (R131, R118). -/
  | ldaAbsy (w : Word)
  /-- LDA indx, opcode 0xA1 (R131, R120). -/
  | ldaIndx (b : Byte)
  /-- LDA indy, opcode 0xB1 (R131, R121). -/
  | ldaIndy (b : Byte)
  /-- LDX imm, opcode 0xA2 (R132, R112). -/
  | ldxImm (v : Byte)
  /-- LDX zp, opcode 0xA6 (R132, R113). -/
  | ldxZp (b : Byte)
  /-- LDX zpy, opcode 0xB6 (R132, R115). -/
  | ldxZpy (b : Byte)
  /-- LDX abs, opcode 0xAE (R132, R116). -/
  | ldxAbs (w : Word)
  /-- LDX absy, opcode 0xBE (R132, R118). -/
  | ldxAbsy (w : Word)
  /-- LDY imm, opcode 0xA0 (R133, R112). -/
  | ldyImm (v : Byte)
  /-- LDY zp, opcode 0xA4 (R133, R113). -/
  | ldyZp (b : Byte)
  /-- LDY zpx, opcode 0xB4 (R133, R114). -/
  | ldyZpx (b : Byte)
  /-- LDY abs, opcode 0xAC (R133, R116). -/
  | ldyAbs (w : Word)
  /-- LDY absx, opcode 0xBC (R133, R117). -/
  | ldyAbsx (w : Word)
  /-- STA zp, opcode 0x85 (R134, R113). -/
  | staZp (b : Byte)
  /-- STA zpx, opcode 0x95 (R134, R114). -/
  | staZpx (b : Byte)
  /-- STA abs, opcode 0x8D (R134, R116). -/
  | staAbs (w : Word)
  /-- STA absx, opcode 0x9D (R134, R117). -/
  | staAbsx (w : Word)
  /-- STA absy, opcode 0x99 (R134, R118). -/
  | staAbsy (w : Word)
  /-- STA indx, opcode 0x81 (R134, R120). -/
  | staIndx (b : Byte)
  /-- STA indy, opcode 0x91 (R134, R121). -/
  | staIndy (b : Byte)
  /-- STX zp, opcode 0x86 (R135, R113). -/
  | stxZp (b : Byte)
  /-- STX zpy, opcode 0x96 (R135, R115). -/
  | stxZpy (b : Byte)
  /-- STX abs, opcode 0x8E (R135, R116). -/
  | stxAbs (w : Word)
  /-- STY zp, opcode 0x84 (R136, R113). -/
  | styZp (b : Byte)
  /-- STY zpx, opcode 0x94 (R136, R114). -/
  | styZpx (b : Byte)
  /-- STY abs, opcode 0x8C (R136, R116). -/
  | styAbs (w : Word)
  /-- ADC imm, opcode 0x69 (R141, R112). -/
  | adcImm (v : Byte)
  /-- ADC zp, opcode 0x65 (R141, R113). -/
  | adcZp (b : Byte)
  /-- ADC zpx, opcode 0x75 (R141, R114). -/
  | adcZpx (b : Byte)
  /-- ADC abs, opcode 0x6D (R141, R116). -/
  | adcAbs (w : Word)
  /-- ADC absx, opcode 0x7D (R141, R117). -/
  | adcAbsx (w : Word)
  /-- ADC absy, opcode 0x79 (R141, R118). -/
  | adcAbsy (w : Word)
  /-- ADC indx, opcode 0x61 (R141, R120). -/
  | adcIndx (b : Byte)
  /-- ADC indy, opcode 0x71 (R141, R121). -/
  | adcIndy (b : Byte)
  /-- SBC imm, opcode 0xE9 (R143, R112). -/
  | sbcImm (v : Byte)
  /-- SBC zp, opcode 0xE5 (R143, R113). -/
  | sbcZp (b : Byte)
  /-- SBC zpx, opcode 0xF5 (R143, R114). -/
  | sbcZpx (b : Byte)
  /-- SBC abs, opcode 0xED (R143, R116). -/
  | sbcAbs (w : Word)
  /-- SBC absx, opcode 0xFD (R143, R117). -/
  | sbcAbsx (w : Word)
  /-- SBC absy, opcode 0xF9 (R143, R118). -/
  | sbcAbsy (w : Word)
  /-- SBC indx, opcode 0xE1 (R143, R120). -/
  | sbcIndx (b : Byte)
  /-- SBC indy, opcode 0xF1 (R143, R121). -/
  | sbcIndy (b : Byte)
  /-- AND imm, opcode 0x29 (R151, R112). -/
  | andImm (v : Byte)
  /-- AND zp, opcode 0x25 (R151, R113). -/
  | andZp (b : Byte)
  /-- AND zpx, opcode 0x35 (R151, R114). -/
  | andZpx (b : Byte)
  /-- AND abs, opcode 0x2D (R151, R116). -/
  | andAbs (w : Word)
  /-- AND absx, opcode 0x3D (R151, R117). -/
  | andAbsx (w : Word)
  /-- AND absy, opcode 0x39 (R151, R118). -/
  | andAbsy (w : Word)
  /-- AND indx, opcode 0x21 (R151, R120). -/
  | andIndx (b : Byte)
  /-- AND indy, opcode 0x31 (R151, R121). -/
  | andIndy (b : Byte)
  /-- ORA imm, opcode 0x09 (R152, R112). -/
  | oraImm (v : Byte)
  /-- ORA zp, opcode 0x05 (R152, R113). -/
  | oraZp (b : Byte)
  /-- ORA zpx, opcode 0x15 (R152, R114). -/
  | oraZpx (b : Byte)
  /-- ORA abs, opcode 0x0D (R152, R116). -/
  | oraAbs (w : Word)
  /-- ORA absx, opcode 0x1D (R152, R117). -/
  | oraAbsx (w : Word)
  /-- ORA absy, opcode 0x19 (R152, R118). -/
  | oraAbsy (w : Word)
  /-- ORA indx, opcode 0x01 (R152, R120). -/
  | oraIndx (b : Byte)
  /-- ORA indy, opcode 0x11 (R152, R121). -/
  | oraIndy (b : Byte)
  /-- EOR imm, opcode 0x49 (R153, R112). -/
  | eorImm (v : Byte)
  /-- EOR zp, opcode 0x45 (R153, R113). -/
  | eorZp (b : Byte)
  /-- EOR zpx, opcode 0x55 (R153, R114). -/
  | eorZpx (b : Byte)
  /-- EOR abs, opcode 0x4D (R153, R116). -/
  | eorAbs (w : Word)
  /-- EOR absx, opcode 0x5D (R153, R117). -/
  | eorAbsx (w : Word)
  /-- EOR absy, opcode 0x59 (R153, R118). -/
  | eorAbsy (w : Word)
  /-- EOR indx, opcode 0x41 (R153, R120). -/
  | eorIndx (b : Byte)
  /-- EOR indy, opcode 0x51 (R153, R121). -/
  | eorIndy (b : Byte)
  /-- BIT zp, opcode 0x24 (R154, R113). -/
  | bitZp (b : Byte)
  /-- BIT abs, opcode 0x2C (R154, R116). -/
  | bitAbs (w : Word)
  /-- CMP imm, opcode 0xC9 (R161, R112). -/
  | cmpImm (v : Byte)
  /-- CMP zp, opcode 0xC5 (R161, R113). -/
  | cmpZp (b : Byte)
  /-- CMP zpx, opcode 0xD5 (R161, R114). -/
  | cmpZpx (b : Byte)
  /-- CMP abs, opcode 0xCD (R161, R116). -/
  | cmpAbs (w : Word)
  /-- CMP absx, opcode 0xDD (R161, R117). -/
  | cmpAbsx (w : Word)
  /-- CMP absy, opcode 0xD9 (R161, R118). -/
  | cmpAbsy (w : Word)
  /-- CMP indx, opcode 0xC1 (R161, R120). -/
  | cmpIndx (b : Byte)
  /-- CMP indy, opcode 0xD1 (R161, R121). -/
  | cmpIndy (b : Byte)
  /-- CPX imm, opcode 0xE0 (R162, R112). -/
  | cpxImm (v : Byte)
  /-- CPX zp, opcode 0xE4 (R162, R113). -/
  | cpxZp (b : Byte)
  /-- CPX abs, opcode 0xEC (R162, R116). -/
  | cpxAbs (w : Word)
  /-- CPY imm, opcode 0xC0 (R163, R112). -/
  | cpyImm (v : Byte)
  /-- CPY zp, opcode 0xC4 (R163, R113). -/
  | cpyZp (b : Byte)
  /-- CPY abs, opcode 0xCC (R163, R116). -/
  | cpyAbs (w : Word)
  /-- ASL acc, opcode 0x0A (R171, R111). -/
  | aslAcc
  /-- ASL zp, opcode 0x06 (R171, R113). -/
  | aslZp (b : Byte)
  /-- ASL zpx, opcode 0x16 (R171, R114). -/
  | aslZpx (b : Byte)
  /-- ASL abs, opcode 0x0E (R171, R116). -/
  | aslAbs (w : Word)
  /-- ASL absx, opcode 0x1E (R171, R117). -/
  | aslAbsx (w : Word)
  /-- LSR acc, opcode 0x4A (R172, R111). -/
  | lsrAcc
  /-- LSR zp, opcode 0x46 (R172, R113). -/
  | lsrZp (b : Byte)
  /-- LSR zpx, opcode 0x56 (R172, R114). -/
  | lsrZpx (b : Byte)
  /-- LSR abs, opcode 0x4E (R172, R116). -/
  | lsrAbs (w : Word)
  /-- LSR absx, opcode 0x5E (R172, R117). -/
  | lsrAbsx (w : Word)
  /-- ROL acc, opcode 0x2A (R173, R111). -/
  | rolAcc
  /-- ROL zp, opcode 0x26 (R173, R113). -/
  | rolZp (b : Byte)
  /-- ROL zpx, opcode 0x36 (R173, R114). -/
  | rolZpx (b : Byte)
  /-- ROL abs, opcode 0x2E (R173, R116). -/
  | rolAbs (w : Word)
  /-- ROL absx, opcode 0x3E (R173, R117). -/
  | rolAbsx (w : Word)
  /-- ROR acc, opcode 0x6A (R174, R111). -/
  | rorAcc
  /-- ROR zp, opcode 0x66 (R174, R113). -/
  | rorZp (b : Byte)
  /-- ROR zpx, opcode 0x76 (R174, R114). -/
  | rorZpx (b : Byte)
  /-- ROR abs, opcode 0x6E (R174, R116). -/
  | rorAbs (w : Word)
  /-- ROR absx, opcode 0x7E (R174, R117). -/
  | rorAbsx (w : Word)
  /-- INC zp, opcode 0xE6 (R181, R113). -/
  | incZp (b : Byte)
  /-- INC zpx, opcode 0xF6 (R181, R114). -/
  | incZpx (b : Byte)
  /-- INC abs, opcode 0xEE (R181, R116). -/
  | incAbs (w : Word)
  /-- INC absx, opcode 0xFE (R181, R117). -/
  | incAbsx (w : Word)
  /-- DEC zp, opcode 0xC6 (R182, R113). -/
  | decZp (b : Byte)
  /-- DEC zpx, opcode 0xD6 (R182, R114). -/
  | decZpx (b : Byte)
  /-- DEC abs, opcode 0xCE (R182, R116). -/
  | decAbs (w : Word)
  /-- DEC absx, opcode 0xDE (R182, R117). -/
  | decAbsx (w : Word)
  /-- INX imp, opcode 0xE8 (R183, R110). -/
  | inx
  /-- INY imp, opcode 0xC8 (R184, R110). -/
  | iny
  /-- DEX imp, opcode 0xCA (R185, R110). -/
  | dex
  /-- DEY imp, opcode 0x88 (R186, R110). -/
  | dey
  /-- BCC rel, opcode 0x90 (R191, R122). -/
  | bcc (off : Byte)
  /-- BCS rel, opcode 0xB0 (R192, R122). -/
  | bcs (off : Byte)
  /-- BEQ rel, opcode 0xF0 (R193, R122). -/
  | beq (off : Byte)
  /-- BNE rel, opcode 0xD0 (R194, R122). -/
  | bne (off : Byte)
  /-- BMI rel, opcode 0x30 (R195, R122). -/
  | bmi (off : Byte)
  /-- BPL rel, opcode 0x10 (R196, R122). -/
  | bpl (off : Byte)
  /-- BVC rel, opcode 0x50 (R197, R122). -/
  | bvc (off : Byte)
  /-- BVS rel, opcode 0x70 (R198, R122). -/
  | bvs (off : Byte)
  /-- PHA imp, opcode 0x48 (R203, R110). -/
  | pha
  /-- PLA imp, opcode 0x68 (R204, R110). -/
  | pla
  /-- PHP imp, opcode 0x08 (R205, R110). -/
  | php
  /-- PLP imp, opcode 0x28 (R206, R110). -/
  | plp
  /-- JSR abs, opcode 0x20 (R207, R116). -/
  | jsr (target : Word)
  /-- RTS imp, opcode 0x60 (R208, R110). -/
  | rts
  /-- RTI imp, opcode 0x40 (R209, R110). -/
  | rti
  /-- BRK imp, opcode 0x00 (R210, R110). -/
  | brk
  /-- JMP abs, opcode 0x4C (R211, R116). -/
  | jmpAbs (target : Word)
  /-- JMP ind, opcode 0x6C (R211, R119). -/
  | jmpInd (p : Word)
  /-- CLC imp, opcode 0x18 (R221, R110). -/
  | clc
  /-- SEC imp, opcode 0x38 (R222, R110). -/
  | sec
  /-- CLD imp, opcode 0xD8 (R223, R110). -/
  | cld
  /-- SED imp, opcode 0xF8 (R224, R110). -/
  | sed
  /-- CLI imp, opcode 0x58 (R225, R110). -/
  | cli
  /-- SEI imp, opcode 0x78 (R226, R110). -/
  | sei
  /-- CLV imp, opcode 0xB8 (R227, R110). -/
  | clv
  /-- NOP imp, opcode 0xEA (R228, R110). -/
  | nop
  /-- TAX imp, opcode 0xAA (R230, R110). -/
  | tax
  /-- TAY imp, opcode 0xA8 (R231, R110). -/
  | tay
  /-- TXA imp, opcode 0x8A (R232, R110). -/
  | txa
  /-- TYA imp, opcode 0x98 (R233, R110). -/
  | tya
  /-- TSX imp, opcode 0xBA (R234, R110). -/
  | tsx
  /-- TXS imp, opcode 0x9A (R235, R110). -/
  | txs
  deriving DecidableEq, Repr

/-- The mnemonic of an instruction: the `mnemonic` column of its row. -/
def Instr.mnemonic : Instr → Mnemonic
  | .ldaImm _ => .LDA
  | .ldaZp _ => .LDA
  | .ldaZpx _ => .LDA
  | .ldaAbs _ => .LDA
  | .ldaAbsx _ => .LDA
  | .ldaAbsy _ => .LDA
  | .ldaIndx _ => .LDA
  | .ldaIndy _ => .LDA
  | .ldxImm _ => .LDX
  | .ldxZp _ => .LDX
  | .ldxZpy _ => .LDX
  | .ldxAbs _ => .LDX
  | .ldxAbsy _ => .LDX
  | .ldyImm _ => .LDY
  | .ldyZp _ => .LDY
  | .ldyZpx _ => .LDY
  | .ldyAbs _ => .LDY
  | .ldyAbsx _ => .LDY
  | .staZp _ => .STA
  | .staZpx _ => .STA
  | .staAbs _ => .STA
  | .staAbsx _ => .STA
  | .staAbsy _ => .STA
  | .staIndx _ => .STA
  | .staIndy _ => .STA
  | .stxZp _ => .STX
  | .stxZpy _ => .STX
  | .stxAbs _ => .STX
  | .styZp _ => .STY
  | .styZpx _ => .STY
  | .styAbs _ => .STY
  | .adcImm _ => .ADC
  | .adcZp _ => .ADC
  | .adcZpx _ => .ADC
  | .adcAbs _ => .ADC
  | .adcAbsx _ => .ADC
  | .adcAbsy _ => .ADC
  | .adcIndx _ => .ADC
  | .adcIndy _ => .ADC
  | .sbcImm _ => .SBC
  | .sbcZp _ => .SBC
  | .sbcZpx _ => .SBC
  | .sbcAbs _ => .SBC
  | .sbcAbsx _ => .SBC
  | .sbcAbsy _ => .SBC
  | .sbcIndx _ => .SBC
  | .sbcIndy _ => .SBC
  | .andImm _ => .AND
  | .andZp _ => .AND
  | .andZpx _ => .AND
  | .andAbs _ => .AND
  | .andAbsx _ => .AND
  | .andAbsy _ => .AND
  | .andIndx _ => .AND
  | .andIndy _ => .AND
  | .oraImm _ => .ORA
  | .oraZp _ => .ORA
  | .oraZpx _ => .ORA
  | .oraAbs _ => .ORA
  | .oraAbsx _ => .ORA
  | .oraAbsy _ => .ORA
  | .oraIndx _ => .ORA
  | .oraIndy _ => .ORA
  | .eorImm _ => .EOR
  | .eorZp _ => .EOR
  | .eorZpx _ => .EOR
  | .eorAbs _ => .EOR
  | .eorAbsx _ => .EOR
  | .eorAbsy _ => .EOR
  | .eorIndx _ => .EOR
  | .eorIndy _ => .EOR
  | .bitZp _ => .BIT
  | .bitAbs _ => .BIT
  | .cmpImm _ => .CMP
  | .cmpZp _ => .CMP
  | .cmpZpx _ => .CMP
  | .cmpAbs _ => .CMP
  | .cmpAbsx _ => .CMP
  | .cmpAbsy _ => .CMP
  | .cmpIndx _ => .CMP
  | .cmpIndy _ => .CMP
  | .cpxImm _ => .CPX
  | .cpxZp _ => .CPX
  | .cpxAbs _ => .CPX
  | .cpyImm _ => .CPY
  | .cpyZp _ => .CPY
  | .cpyAbs _ => .CPY
  | .aslAcc => .ASL
  | .aslZp _ => .ASL
  | .aslZpx _ => .ASL
  | .aslAbs _ => .ASL
  | .aslAbsx _ => .ASL
  | .lsrAcc => .LSR
  | .lsrZp _ => .LSR
  | .lsrZpx _ => .LSR
  | .lsrAbs _ => .LSR
  | .lsrAbsx _ => .LSR
  | .rolAcc => .ROL
  | .rolZp _ => .ROL
  | .rolZpx _ => .ROL
  | .rolAbs _ => .ROL
  | .rolAbsx _ => .ROL
  | .rorAcc => .ROR
  | .rorZp _ => .ROR
  | .rorZpx _ => .ROR
  | .rorAbs _ => .ROR
  | .rorAbsx _ => .ROR
  | .incZp _ => .INC
  | .incZpx _ => .INC
  | .incAbs _ => .INC
  | .incAbsx _ => .INC
  | .decZp _ => .DEC
  | .decZpx _ => .DEC
  | .decAbs _ => .DEC
  | .decAbsx _ => .DEC
  | .inx => .INX
  | .iny => .INY
  | .dex => .DEX
  | .dey => .DEY
  | .bcc _ => .BCC
  | .bcs _ => .BCS
  | .beq _ => .BEQ
  | .bne _ => .BNE
  | .bmi _ => .BMI
  | .bpl _ => .BPL
  | .bvc _ => .BVC
  | .bvs _ => .BVS
  | .pha => .PHA
  | .pla => .PLA
  | .php => .PHP
  | .plp => .PLP
  | .jsr _ => .JSR
  | .rts => .RTS
  | .rti => .RTI
  | .brk => .BRK
  | .jmpAbs _ => .JMP
  | .jmpInd _ => .JMP
  | .clc => .CLC
  | .sec => .SEC
  | .cld => .CLD
  | .sed => .SED
  | .cli => .CLI
  | .sei => .SEI
  | .clv => .CLV
  | .nop => .NOP
  | .tax => .TAX
  | .tay => .TAY
  | .txa => .TXA
  | .tya => .TYA
  | .tsx => .TSX
  | .txs => .TXS

/-- The operand of an instruction, in its format: the `format` column of its row. -/
def Instr.operand : Instr → Operand
  | .ldaImm v => .imm v
  | .ldaZp b => .mem (.zp b)
  | .ldaZpx b => .mem (.zpx b)
  | .ldaAbs w => .mem (.abs w)
  | .ldaAbsx w => .mem (.absx w)
  | .ldaAbsy w => .mem (.absy w)
  | .ldaIndx b => .mem (.indx b)
  | .ldaIndy b => .mem (.indy b)
  | .ldxImm v => .imm v
  | .ldxZp b => .mem (.zp b)
  | .ldxZpy b => .mem (.zpy b)
  | .ldxAbs w => .mem (.abs w)
  | .ldxAbsy w => .mem (.absy w)
  | .ldyImm v => .imm v
  | .ldyZp b => .mem (.zp b)
  | .ldyZpx b => .mem (.zpx b)
  | .ldyAbs w => .mem (.abs w)
  | .ldyAbsx w => .mem (.absx w)
  | .staZp b => .mem (.zp b)
  | .staZpx b => .mem (.zpx b)
  | .staAbs w => .mem (.abs w)
  | .staAbsx w => .mem (.absx w)
  | .staAbsy w => .mem (.absy w)
  | .staIndx b => .mem (.indx b)
  | .staIndy b => .mem (.indy b)
  | .stxZp b => .mem (.zp b)
  | .stxZpy b => .mem (.zpy b)
  | .stxAbs w => .mem (.abs w)
  | .styZp b => .mem (.zp b)
  | .styZpx b => .mem (.zpx b)
  | .styAbs w => .mem (.abs w)
  | .adcImm v => .imm v
  | .adcZp b => .mem (.zp b)
  | .adcZpx b => .mem (.zpx b)
  | .adcAbs w => .mem (.abs w)
  | .adcAbsx w => .mem (.absx w)
  | .adcAbsy w => .mem (.absy w)
  | .adcIndx b => .mem (.indx b)
  | .adcIndy b => .mem (.indy b)
  | .sbcImm v => .imm v
  | .sbcZp b => .mem (.zp b)
  | .sbcZpx b => .mem (.zpx b)
  | .sbcAbs w => .mem (.abs w)
  | .sbcAbsx w => .mem (.absx w)
  | .sbcAbsy w => .mem (.absy w)
  | .sbcIndx b => .mem (.indx b)
  | .sbcIndy b => .mem (.indy b)
  | .andImm v => .imm v
  | .andZp b => .mem (.zp b)
  | .andZpx b => .mem (.zpx b)
  | .andAbs w => .mem (.abs w)
  | .andAbsx w => .mem (.absx w)
  | .andAbsy w => .mem (.absy w)
  | .andIndx b => .mem (.indx b)
  | .andIndy b => .mem (.indy b)
  | .oraImm v => .imm v
  | .oraZp b => .mem (.zp b)
  | .oraZpx b => .mem (.zpx b)
  | .oraAbs w => .mem (.abs w)
  | .oraAbsx w => .mem (.absx w)
  | .oraAbsy w => .mem (.absy w)
  | .oraIndx b => .mem (.indx b)
  | .oraIndy b => .mem (.indy b)
  | .eorImm v => .imm v
  | .eorZp b => .mem (.zp b)
  | .eorZpx b => .mem (.zpx b)
  | .eorAbs w => .mem (.abs w)
  | .eorAbsx w => .mem (.absx w)
  | .eorAbsy w => .mem (.absy w)
  | .eorIndx b => .mem (.indx b)
  | .eorIndy b => .mem (.indy b)
  | .bitZp b => .mem (.zp b)
  | .bitAbs w => .mem (.abs w)
  | .cmpImm v => .imm v
  | .cmpZp b => .mem (.zp b)
  | .cmpZpx b => .mem (.zpx b)
  | .cmpAbs w => .mem (.abs w)
  | .cmpAbsx w => .mem (.absx w)
  | .cmpAbsy w => .mem (.absy w)
  | .cmpIndx b => .mem (.indx b)
  | .cmpIndy b => .mem (.indy b)
  | .cpxImm v => .imm v
  | .cpxZp b => .mem (.zp b)
  | .cpxAbs w => .mem (.abs w)
  | .cpyImm v => .imm v
  | .cpyZp b => .mem (.zp b)
  | .cpyAbs w => .mem (.abs w)
  | .aslAcc => .acc
  | .aslZp b => .mem (.zp b)
  | .aslZpx b => .mem (.zpx b)
  | .aslAbs w => .mem (.abs w)
  | .aslAbsx w => .mem (.absx w)
  | .lsrAcc => .acc
  | .lsrZp b => .mem (.zp b)
  | .lsrZpx b => .mem (.zpx b)
  | .lsrAbs w => .mem (.abs w)
  | .lsrAbsx w => .mem (.absx w)
  | .rolAcc => .acc
  | .rolZp b => .mem (.zp b)
  | .rolZpx b => .mem (.zpx b)
  | .rolAbs w => .mem (.abs w)
  | .rolAbsx w => .mem (.absx w)
  | .rorAcc => .acc
  | .rorZp b => .mem (.zp b)
  | .rorZpx b => .mem (.zpx b)
  | .rorAbs w => .mem (.abs w)
  | .rorAbsx w => .mem (.absx w)
  | .incZp b => .mem (.zp b)
  | .incZpx b => .mem (.zpx b)
  | .incAbs w => .mem (.abs w)
  | .incAbsx w => .mem (.absx w)
  | .decZp b => .mem (.zp b)
  | .decZpx b => .mem (.zpx b)
  | .decAbs w => .mem (.abs w)
  | .decAbsx w => .mem (.absx w)
  | .inx => .imp
  | .iny => .imp
  | .dex => .imp
  | .dey => .imp
  | .bcc off => .rel off
  | .bcs off => .rel off
  | .beq off => .rel off
  | .bne off => .rel off
  | .bmi off => .rel off
  | .bpl off => .rel off
  | .bvc off => .rel off
  | .bvs off => .rel off
  | .pha => .imp
  | .pla => .imp
  | .php => .imp
  | .plp => .imp
  | .jsr target => .mem (.abs target)
  | .rts => .imp
  | .rti => .imp
  | .brk => .imp
  | .jmpAbs target => .mem (.abs target)
  | .jmpInd p => .ind p
  | .clc => .imp
  | .sec => .imp
  | .cld => .imp
  | .sed => .imp
  | .cli => .imp
  | .sei => .imp
  | .clv => .imp
  | .nop => .imp
  | .tax => .imp
  | .tay => .imp
  | .txa => .imp
  | .tya => .imp
  | .tsx => .imp
  | .txs => .imp

/-- The format of an instruction (R81). -/
def Instr.mode (i : Instr) : Mode :=
  i.operand.mode

end Sys2Proof
end

