-- ==== Sys2Proof/WellFormed.lean ====
section
/-! DEFINITION. Well-formedness: of an instruction (its format is one its mnemonic has, 30_encoding.md R86; no
operand value is ever illegal, R89) and of a configuration (20_memory.md R54, 92_eei_decisions.md D27). -/

namespace Sys2Proof

/-- An instruction is well formed when its mnemonic has its format (R86). Every operand value is accepted by
every format (R89), so nothing else is checked. -/
def Instr.wellFormed (i : Instr) : Bool :=
  i.mnemonic.modes.contains i.mode

/-- A device record is well formed when `lo <= hi` (R54). -/
def Device.wellFormed (d : Device) : Bool :=
  decide (d.lo ≤ d.hi)

/-- A row is well formed when its mnemonic has its format (R86) and it costs at least the one bus transaction
every instruction makes (70_reset_and_hazards.md R291). -/
def OpRow.wellFormed (r : OpRow) : Bool :=
  r.mnemonic.modes.contains r.mode && decide (1 ≤ r.base)

/-- OPMAP is a function of the opcode byte: no byte has two rows (30_encoding.md R80). -/
def opcodesDistinct : List OpRow → Bool
  | [] => true
  | r :: rs => rs.all (fun q => q.opcode != r.opcode) && opcodesDistinct rs

/-- Configuration well-formedness (R54, D27): at most 64 devices, each with `lo <= hi`, and a table that is a
function from opcode bytes to existing forms. REGION is total and single-valued by construction. -/
def Config.wellFormed (c : Config) : Bool :=
  decide (c.devices.length ≤ Config.maxDevices) && c.devices.all Device.wellFormed
    && c.ops.all OpRow.wellFormed && opcodesDistinct c.ops

end Sys2Proof
end

