-- ==== Sys2Proof/Decode.lean ====
section
/-! DEFINITION. Decoding and encoding (30_encoding.md): the byte order of 16-bit operands (R84), the decoder,
total on any bytes and rejecting by name (R80, R82, R88), the encoder written from the grid of R87, and the
host's `decodeTableWord`. -/

namespace Sys2Proof

/-- `hi:lo`, the 16-bit value `hi * 256 + lo` (00_scope.md R5). -/
def wordOf (hi lo : Byte) : Word :=
  hi ++ lo

/-- `w[15:8]`, the high byte or page of a 16-bit value (R5). -/
def highByte (w : Word) : Byte :=
  w.extractLsb' 8 8

/-- `w[7:0]`, the low byte of a 16-bit value (R5). -/
def lowByte (w : Word) : Byte :=
  w.extractLsb' 0 8

/-- Why bytes are no instruction. -/
inductive DecodeError where
  /-- The first byte is outside OPMAP (R88). -/
  | illegalOpcode (op : Byte)
  /-- There are fewer bytes than the opcode's format has. -/
  | truncated
  /-- The table gives the opcode a mnemonic and format that no instruction has: an ill-formed table. -/
  | noSuchForm (op : Byte)
  deriving DecidableEq, Repr

/-- OPMAP, ACCESS_OF and CYCLES at an opcode: its row, or none for an illegal opcode (R82, R88). -/
def rowOf (ops : List OpRow) (op : Byte) : Option OpRow :=
  ops.find? (fun r => r.opcode == op)

/-- The operand of a format, taken from the bytes after the opcode (R81, R83, R84: low byte first), with the
bytes left over. -/
def takeOperand : Mode → List Byte → Option (Operand × List Byte)
  | .imp, bs => some (.imp, bs)
  | .acc, bs => some (.acc, bs)
  | .imm, v :: bs => some (.imm v, bs)
  | .zp, b :: bs => some (.mem (.zp b), bs)
  | .zpx, b :: bs => some (.mem (.zpx b), bs)
  | .zpy, b :: bs => some (.mem (.zpy b), bs)
  | .abs, lo :: hi :: bs => some (.mem (.abs (wordOf hi lo)), bs)
  | .absx, lo :: hi :: bs => some (.mem (.absx (wordOf hi lo)), bs)
  | .absy, lo :: hi :: bs => some (.mem (.absy (wordOf hi lo)), bs)
  | .ind, lo :: hi :: bs => some (.ind (wordOf hi lo), bs)
  | .indx, b :: bs => some (.mem (.indx b), bs)
  | .indy, b :: bs => some (.mem (.indy b), bs)
  | .rel, off :: bs => some (.rel off, bs)
  | _, _ => none

/-- The instruction that has a mnemonic and an operand, where the pair exists (the cells of R86's table). -/
def assemble (mn : Mnemonic) (o : Operand) : Option Instr :=
  match mn with
  | .LDA =>
    match o with
    | .imm v => some (.ldaImm v)
    | .mem (.zp b) => some (.ldaZp b)
    | .mem (.zpx b) => some (.ldaZpx b)
    | .mem (.abs w) => some (.ldaAbs w)
    | .mem (.absx w) => some (.ldaAbsx w)
    | .mem (.absy w) => some (.ldaAbsy w)
    | .mem (.indx b) => some (.ldaIndx b)
    | .mem (.indy b) => some (.ldaIndy b)
    | _ => none
  | .LDX =>
    match o with
    | .imm v => some (.ldxImm v)
    | .mem (.zp b) => some (.ldxZp b)
    | .mem (.zpy b) => some (.ldxZpy b)
    | .mem (.abs w) => some (.ldxAbs w)
    | .mem (.absy w) => some (.ldxAbsy w)
    | _ => none
  | .LDY =>
    match o with
    | .imm v => some (.ldyImm v)
    | .mem (.zp b) => some (.ldyZp b)
    | .mem (.zpx b) => some (.ldyZpx b)
    | .mem (.abs w) => some (.ldyAbs w)
    | .mem (.absx w) => some (.ldyAbsx w)
    | _ => none
  | .STA =>
    match o with
    | .mem (.zp b) => some (.staZp b)
    | .mem (.zpx b) => some (.staZpx b)
    | .mem (.abs w) => some (.staAbs w)
    | .mem (.absx w) => some (.staAbsx w)
    | .mem (.absy w) => some (.staAbsy w)
    | .mem (.indx b) => some (.staIndx b)
    | .mem (.indy b) => some (.staIndy b)
    | _ => none
  | .STX =>
    match o with
    | .mem (.zp b) => some (.stxZp b)
    | .mem (.zpy b) => some (.stxZpy b)
    | .mem (.abs w) => some (.stxAbs w)
    | _ => none
  | .STY =>
    match o with
    | .mem (.zp b) => some (.styZp b)
    | .mem (.zpx b) => some (.styZpx b)
    | .mem (.abs w) => some (.styAbs w)
    | _ => none
  | .ADC =>
    match o with
    | .imm v => some (.adcImm v)
    | .mem (.zp b) => some (.adcZp b)
    | .mem (.zpx b) => some (.adcZpx b)
    | .mem (.abs w) => some (.adcAbs w)
    | .mem (.absx w) => some (.adcAbsx w)
    | .mem (.absy w) => some (.adcAbsy w)
    | .mem (.indx b) => some (.adcIndx b)
    | .mem (.indy b) => some (.adcIndy b)
    | _ => none
  | .SBC =>
    match o with
    | .imm v => some (.sbcImm v)
    | .mem (.zp b) => some (.sbcZp b)
    | .mem (.zpx b) => some (.sbcZpx b)
    | .mem (.abs w) => some (.sbcAbs w)
    | .mem (.absx w) => some (.sbcAbsx w)
    | .mem (.absy w) => some (.sbcAbsy w)
    | .mem (.indx b) => some (.sbcIndx b)
    | .mem (.indy b) => some (.sbcIndy b)
    | _ => none
  | .AND =>
    match o with
    | .imm v => some (.andImm v)
    | .mem (.zp b) => some (.andZp b)
    | .mem (.zpx b) => some (.andZpx b)
    | .mem (.abs w) => some (.andAbs w)
    | .mem (.absx w) => some (.andAbsx w)
    | .mem (.absy w) => some (.andAbsy w)
    | .mem (.indx b) => some (.andIndx b)
    | .mem (.indy b) => some (.andIndy b)
    | _ => none
  | .ORA =>
    match o with
    | .imm v => some (.oraImm v)
    | .mem (.zp b) => some (.oraZp b)
    | .mem (.zpx b) => some (.oraZpx b)
    | .mem (.abs w) => some (.oraAbs w)
    | .mem (.absx w) => some (.oraAbsx w)
    | .mem (.absy w) => some (.oraAbsy w)
    | .mem (.indx b) => some (.oraIndx b)
    | .mem (.indy b) => some (.oraIndy b)
    | _ => none
  | .EOR =>
    match o with
    | .imm v => some (.eorImm v)
    | .mem (.zp b) => some (.eorZp b)
    | .mem (.zpx b) => some (.eorZpx b)
    | .mem (.abs w) => some (.eorAbs w)
    | .mem (.absx w) => some (.eorAbsx w)
    | .mem (.absy w) => some (.eorAbsy w)
    | .mem (.indx b) => some (.eorIndx b)
    | .mem (.indy b) => some (.eorIndy b)
    | _ => none
  | .BIT =>
    match o with
    | .mem (.zp b) => some (.bitZp b)
    | .mem (.abs w) => some (.bitAbs w)
    | _ => none
  | .CMP =>
    match o with
    | .imm v => some (.cmpImm v)
    | .mem (.zp b) => some (.cmpZp b)
    | .mem (.zpx b) => some (.cmpZpx b)
    | .mem (.abs w) => some (.cmpAbs w)
    | .mem (.absx w) => some (.cmpAbsx w)
    | .mem (.absy w) => some (.cmpAbsy w)
    | .mem (.indx b) => some (.cmpIndx b)
    | .mem (.indy b) => some (.cmpIndy b)
    | _ => none
  | .CPX =>
    match o with
    | .imm v => some (.cpxImm v)
    | .mem (.zp b) => some (.cpxZp b)
    | .mem (.abs w) => some (.cpxAbs w)
    | _ => none
  | .CPY =>
    match o with
    | .imm v => some (.cpyImm v)
    | .mem (.zp b) => some (.cpyZp b)
    | .mem (.abs w) => some (.cpyAbs w)
    | _ => none
  | .ASL =>
    match o with
    | .acc => some .aslAcc
    | .mem (.zp b) => some (.aslZp b)
    | .mem (.zpx b) => some (.aslZpx b)
    | .mem (.abs w) => some (.aslAbs w)
    | .mem (.absx w) => some (.aslAbsx w)
    | _ => none
  | .LSR =>
    match o with
    | .acc => some .lsrAcc
    | .mem (.zp b) => some (.lsrZp b)
    | .mem (.zpx b) => some (.lsrZpx b)
    | .mem (.abs w) => some (.lsrAbs w)
    | .mem (.absx w) => some (.lsrAbsx w)
    | _ => none
  | .ROL =>
    match o with
    | .acc => some .rolAcc
    | .mem (.zp b) => some (.rolZp b)
    | .mem (.zpx b) => some (.rolZpx b)
    | .mem (.abs w) => some (.rolAbs w)
    | .mem (.absx w) => some (.rolAbsx w)
    | _ => none
  | .ROR =>
    match o with
    | .acc => some .rorAcc
    | .mem (.zp b) => some (.rorZp b)
    | .mem (.zpx b) => some (.rorZpx b)
    | .mem (.abs w) => some (.rorAbs w)
    | .mem (.absx w) => some (.rorAbsx w)
    | _ => none
  | .INC =>
    match o with
    | .mem (.zp b) => some (.incZp b)
    | .mem (.zpx b) => some (.incZpx b)
    | .mem (.abs w) => some (.incAbs w)
    | .mem (.absx w) => some (.incAbsx w)
    | _ => none
  | .DEC =>
    match o with
    | .mem (.zp b) => some (.decZp b)
    | .mem (.zpx b) => some (.decZpx b)
    | .mem (.abs w) => some (.decAbs w)
    | .mem (.absx w) => some (.decAbsx w)
    | _ => none
  | .INX =>
    match o with
    | .imp => some .inx
    | _ => none
  | .INY =>
    match o with
    | .imp => some .iny
    | _ => none
  | .DEX =>
    match o with
    | .imp => some .dex
    | _ => none
  | .DEY =>
    match o with
    | .imp => some .dey
    | _ => none
  | .BCC =>
    match o with
    | .rel off => some (.bcc off)
    | _ => none
  | .BCS =>
    match o with
    | .rel off => some (.bcs off)
    | _ => none
  | .BEQ =>
    match o with
    | .rel off => some (.beq off)
    | _ => none
  | .BNE =>
    match o with
    | .rel off => some (.bne off)
    | _ => none
  | .BMI =>
    match o with
    | .rel off => some (.bmi off)
    | _ => none
  | .BPL =>
    match o with
    | .rel off => some (.bpl off)
    | _ => none
  | .BVC =>
    match o with
    | .rel off => some (.bvc off)
    | _ => none
  | .BVS =>
    match o with
    | .rel off => some (.bvs off)
    | _ => none
  | .PHA =>
    match o with
    | .imp => some .pha
    | _ => none
  | .PLA =>
    match o with
    | .imp => some .pla
    | _ => none
  | .PHP =>
    match o with
    | .imp => some .php
    | _ => none
  | .PLP =>
    match o with
    | .imp => some .plp
    | _ => none
  | .JSR =>
    match o with
    | .mem (.abs target) => some (.jsr target)
    | _ => none
  | .RTS =>
    match o with
    | .imp => some .rts
    | _ => none
  | .RTI =>
    match o with
    | .imp => some .rti
    | _ => none
  | .BRK =>
    match o with
    | .imp => some .brk
    | _ => none
  | .JMP =>
    match o with
    | .mem (.abs target) => some (.jmpAbs target)
    | .ind p => some (.jmpInd p)
    | _ => none
  | .CLC =>
    match o with
    | .imp => some .clc
    | _ => none
  | .SEC =>
    match o with
    | .imp => some .sec
    | _ => none
  | .CLD =>
    match o with
    | .imp => some .cld
    | _ => none
  | .SED =>
    match o with
    | .imp => some .sed
    | _ => none
  | .CLI =>
    match o with
    | .imp => some .cli
    | _ => none
  | .SEI =>
    match o with
    | .imp => some .sei
    | _ => none
  | .CLV =>
    match o with
    | .imp => some .clv
    | _ => none
  | .NOP =>
    match o with
    | .imp => some .nop
    | _ => none
  | .TAX =>
    match o with
    | .imp => some .tax
    | _ => none
  | .TAY =>
    match o with
    | .imp => some .tay
    | _ => none
  | .TXA =>
    match o with
    | .imp => some .txa
    | _ => none
  | .TYA =>
    match o with
    | .imp => some .tya
    | _ => none
  | .TSX =>
    match o with
    | .imp => some .tsx
    | _ => none
  | .TXS =>
    match o with
    | .imp => some .txs
    | _ => none

/-- The decoder: the opcode byte alone selects the row, the row's format says how many operand bytes follow
(R80, R82). It answers the instruction and the bytes after it. -/
def decode (ops : List OpRow) : List Byte → Except DecodeError (Instr × List Byte)
  | [] => .error .truncated
  | op :: bs =>
    match rowOf ops op with
    | none => .error (.illegalOpcode op)
    | some row =>
      match takeOperand row.mode bs with
      | none => .error .truncated
      | some (o, rest) =>
        match assemble row.mnemonic o with
        | none => .error (.noSuchForm op)
        | some i => .ok (i, rest)

/-- The opcode byte of an instruction in the default map, read off the grid of R87. -/
def Instr.opcode : Instr → Byte
  | .ldaImm _ => 0xA9
  | .ldaZp _ => 0xA5
  | .ldaZpx _ => 0xB5
  | .ldaAbs _ => 0xAD
  | .ldaAbsx _ => 0xBD
  | .ldaAbsy _ => 0xB9
  | .ldaIndx _ => 0xA1
  | .ldaIndy _ => 0xB1
  | .ldxImm _ => 0xA2
  | .ldxZp _ => 0xA6
  | .ldxZpy _ => 0xB6
  | .ldxAbs _ => 0xAE
  | .ldxAbsy _ => 0xBE
  | .ldyImm _ => 0xA0
  | .ldyZp _ => 0xA4
  | .ldyZpx _ => 0xB4
  | .ldyAbs _ => 0xAC
  | .ldyAbsx _ => 0xBC
  | .staZp _ => 0x85
  | .staZpx _ => 0x95
  | .staAbs _ => 0x8D
  | .staAbsx _ => 0x9D
  | .staAbsy _ => 0x99
  | .staIndx _ => 0x81
  | .staIndy _ => 0x91
  | .stxZp _ => 0x86
  | .stxZpy _ => 0x96
  | .stxAbs _ => 0x8E
  | .styZp _ => 0x84
  | .styZpx _ => 0x94
  | .styAbs _ => 0x8C
  | .adcImm _ => 0x69
  | .adcZp _ => 0x65
  | .adcZpx _ => 0x75
  | .adcAbs _ => 0x6D
  | .adcAbsx _ => 0x7D
  | .adcAbsy _ => 0x79
  | .adcIndx _ => 0x61
  | .adcIndy _ => 0x71
  | .sbcImm _ => 0xE9
  | .sbcZp _ => 0xE5
  | .sbcZpx _ => 0xF5
  | .sbcAbs _ => 0xED
  | .sbcAbsx _ => 0xFD
  | .sbcAbsy _ => 0xF9
  | .sbcIndx _ => 0xE1
  | .sbcIndy _ => 0xF1
  | .andImm _ => 0x29
  | .andZp _ => 0x25
  | .andZpx _ => 0x35
  | .andAbs _ => 0x2D
  | .andAbsx _ => 0x3D
  | .andAbsy _ => 0x39
  | .andIndx _ => 0x21
  | .andIndy _ => 0x31
  | .oraImm _ => 0x09
  | .oraZp _ => 0x05
  | .oraZpx _ => 0x15
  | .oraAbs _ => 0x0D
  | .oraAbsx _ => 0x1D
  | .oraAbsy _ => 0x19
  | .oraIndx _ => 0x01
  | .oraIndy _ => 0x11
  | .eorImm _ => 0x49
  | .eorZp _ => 0x45
  | .eorZpx _ => 0x55
  | .eorAbs _ => 0x4D
  | .eorAbsx _ => 0x5D
  | .eorAbsy _ => 0x59
  | .eorIndx _ => 0x41
  | .eorIndy _ => 0x51
  | .bitZp _ => 0x24
  | .bitAbs _ => 0x2C
  | .cmpImm _ => 0xC9
  | .cmpZp _ => 0xC5
  | .cmpZpx _ => 0xD5
  | .cmpAbs _ => 0xCD
  | .cmpAbsx _ => 0xDD
  | .cmpAbsy _ => 0xD9
  | .cmpIndx _ => 0xC1
  | .cmpIndy _ => 0xD1
  | .cpxImm _ => 0xE0
  | .cpxZp _ => 0xE4
  | .cpxAbs _ => 0xEC
  | .cpyImm _ => 0xC0
  | .cpyZp _ => 0xC4
  | .cpyAbs _ => 0xCC
  | .aslAcc => 0x0A
  | .aslZp _ => 0x06
  | .aslZpx _ => 0x16
  | .aslAbs _ => 0x0E
  | .aslAbsx _ => 0x1E
  | .lsrAcc => 0x4A
  | .lsrZp _ => 0x46
  | .lsrZpx _ => 0x56
  | .lsrAbs _ => 0x4E
  | .lsrAbsx _ => 0x5E
  | .rolAcc => 0x2A
  | .rolZp _ => 0x26
  | .rolZpx _ => 0x36
  | .rolAbs _ => 0x2E
  | .rolAbsx _ => 0x3E
  | .rorAcc => 0x6A
  | .rorZp _ => 0x66
  | .rorZpx _ => 0x76
  | .rorAbs _ => 0x6E
  | .rorAbsx _ => 0x7E
  | .incZp _ => 0xE6
  | .incZpx _ => 0xF6
  | .incAbs _ => 0xEE
  | .incAbsx _ => 0xFE
  | .decZp _ => 0xC6
  | .decZpx _ => 0xD6
  | .decAbs _ => 0xCE
  | .decAbsx _ => 0xDE
  | .inx => 0xE8
  | .iny => 0xC8
  | .dex => 0xCA
  | .dey => 0x88
  | .bcc _ => 0x90
  | .bcs _ => 0xB0
  | .beq _ => 0xF0
  | .bne _ => 0xD0
  | .bmi _ => 0x30
  | .bpl _ => 0x10
  | .bvc _ => 0x50
  | .bvs _ => 0x70
  | .pha => 0x48
  | .pla => 0x68
  | .php => 0x08
  | .plp => 0x28
  | .jsr _ => 0x20
  | .rts => 0x60
  | .rti => 0x40
  | .brk => 0x00
  | .jmpAbs _ => 0x4C
  | .jmpInd _ => 0x6C
  | .clc => 0x18
  | .sec => 0x38
  | .cld => 0xD8
  | .sed => 0xF8
  | .cli => 0x58
  | .sei => 0x78
  | .clv => 0xB8
  | .nop => 0xEA
  | .tax => 0xAA
  | .tay => 0xA8
  | .txa => 0x8A
  | .tya => 0x98
  | .tsx => 0xBA
  | .txs => 0x9A

/-- The operand bytes of a memory form, in instruction-stream order (R81, R84). -/
def MemForm.bytes : MemForm → List Byte
  | .zp b => [b]
  | .zpx b => [b]
  | .zpy b => [b]
  | .abs w => [lowByte w, highByte w]
  | .absx w => [lowByte w, highByte w]
  | .absy w => [lowByte w, highByte w]
  | .indx b => [b]
  | .indy b => [b]

/-- The operand bytes of an operand, in instruction-stream order (R81, R84). -/
def Operand.bytes : Operand → List Byte
  | .imp => []
  | .acc => []
  | .imm v => [v]
  | .mem m => m.bytes
  | .ind p => [lowByte p, highByte p]
  | .rel off => [off]

/-- The encoder for the default map: the opcode byte, then the operand bytes (R80). -/
def encode (i : Instr) : List Byte :=
  i.opcode :: i.operand.bytes

/-- The `n` lowest bytes of a number, least significant first: the words of an instruction as the table numbers
their bits, laid out at rising addresses (R81). -/
def bytesOfNat : Nat → Nat → List Byte
  | 0, _ => []
  | n + 1, w => BitVec.ofNat 8 w :: bytesOfNat n (w / 256)

/-- The three bytes (the longest instruction) that the host's `nbits` and `w` stand for: the bits of `w` above
`nbits` are 0. -/
def tableWordBytes (nbits w : Nat) : List Byte :=
  bytesOfNat 3 (w % 2 ^ nbits)

/-- What the decoder reads from the instruction whose bits are `w`, under the default table. -/
def decodeTableWord (nbits w : Nat) : Option Instr :=
  match decode Config.defaultOps (tableWordBytes nbits w) with
  | .ok (i, _) => some i
  | .error _ => none

end Sys2Proof
end

