-- ==== Sys2Proof/Machine/State.lean ====
section
/-! DEFINITION. The state of Rosetta-6502 CORE (10_state.md) as plain data, the reasons a step or a host move can
stop, and the state after reset (10_state.md R34, 70_reset_and_hazards.md R271). -/

namespace Sys2Proof.Machine

/-- The direction of a bus transaction, with the data byte of a write (20_memory.md R41). -/
inductive Direction where
  | read
  | write (v : Byte)
  deriving DecidableEq, Repr

/-- The events of LOG (10_state.md R31). -/
inductive Event where
  /-- A write to a ROM address was dropped (20_memory.md R46). -/
  | romWriteIgnored (addr : Word) (v : Byte)
  /-- An MMIO access without the MMIO bit (20_memory.md R48). -/
  | mmioPermissionDenied (dir : Direction) (addr : Word)
  /-- A permitted MMIO access that matches no device (20_memory.md R51). -/
  | mmioUnmatched (dir : Direction) (addr : Word)
  /-- A device answered a read (20_memory.md R49). -/
  | deviceRead (device : Nat) (addr : Word) (v : Byte)
  /-- A device was written (20_memory.md R49). -/
  | deviceWrite (device : Nat) (addr : Word) (v : Byte)
  /-- An unmapped opcode byte was fetched (60_exceptions.md R242). -/
  | illegalOpcode (op : Byte) (addr : Word)
  /-- A BRK halted the core (60_exceptions.md R241). -/
  | brkHalt (addr : Word)
  deriving DecidableEq, Repr

/-- HALT_REASON (10_state.md R29). -/
inductive HaltReason where
  | none
  | brk
  | illegalOpcode (op : Byte)
  deriving DecidableEq, Repr

/-- The memory array as (address, byte) pairs: rising addresses, no entry equal to what an unlisted address
reads as (10_state.md R24). -/
abbrev Memory := List Host.Cell

/-- The state of the core. The comment on each field names its rule; the last three are the model's own. -/
@[ext]
structure State where
  /-- A (R10). -/
  a : Byte
  /-- X (R11). -/
  x : Byte
  /-- Y (R11). -/
  y : Byte
  /-- SP, the low byte of a page-1 address (R12). -/
  sp : Byte
  /-- PS, the packed flags N V U B D I Z C (R14, R15, R16). -/
  ps : Byte
  /-- PC (R13). -/
  pc : Word
  /-- MEM, 65,536 bytes (R24). -/
  mem : Memory
  /-- AT, the AccessType latch (R27). -/
  accessType : AccessMask
  /-- BUDGET (R28). -/
  budget : Int
  /-- TOTAL (R28). -/
  total : Nat
  /-- HALTED (R29). -/
  halted : Bool
  /-- HALT_REASON (R29). -/
  haltReason : HaltReason
  /-- READY (R30). -/
  ready : Bool
  /-- LOG, oldest event first (R31). -/
  log : List Event
  /-- The configuration of this instance, fixed before the first reset (R32, 00_scope.md R4; log entry 2). -/
  cfg : Config
  /-- The model's own: how many device bytes have been drawn (20_memory.md R50; log entry 1). -/
  draws : Nat
  /-- The model's own: the penalties Execute hands to the step (R101's `extra`: 0 none, 1 the first, 2 both), which
  CYCLES(op) gives their cycles at the close of the step (log entries 2 and 3). -/
  extra : Nat
  /-- The model's own: a step has been taken since the last reset (R275's "when"; log entry 4). -/
  started : Bool
  deriving DecidableEq, Repr

/-- The reasons the machine could stop with a fault. -/
inductive Fault where
  /-- The source's error kind MemoryOutOfBounds. Raised by nobody: it is "structurally prevented by a 16-bit
  address over a 64KB array" (20_memory.md R54, 60_exceptions.md R243). Safe. -/
  | memoryOutOfBounds
  deriving DecidableEq, Repr

/-- The reasons an input is no behaviour of the core. -/
inductive Refusal where
  /-- An instruction that has no meaning yet; raised by `exec` alone. Safe. -/
  | notModelled (mnemonic : String)
  /-- A `step` or `run` before the first reset; raised by `step` and `run` (40_engine_and_addressing.md R109,
  93_implementation_defined.md U10). Safe. -/
  | notReady
  /-- An ill-formed configuration; raised by `configure` and `registerDevice`, and by `step` for a table row
  whose form does not exist (20_memory.md R54, 93_implementation_defined.md U9). Safe. -/
  | badConfiguration
  /-- A configuration move after the first reset; raised by `configure` and `registerDevice`
  (70_reset_and_hazards.md R275). Safe. -/
  | configureAfterReset
  /-- A `poke` after execution has started; raised by `poke` (93_implementation_defined.md U12). Safe. -/
  | pokeAfterStart
  deriving DecidableEq, Repr

/-- The state right after power-on and one reset under the default configuration: the values of R34 on
power-on memory, so PC = 0x0000, counters 0 and LOG empty (R33, 70_reset_and_hazards.md R274). -/
def State.reset : State where
  a := 0x00
  x := 0x00
  y := 0x00
  sp := Config.resetSp
  ps := 0x00
  pc := 0x0000
  mem := []
  accessType := Config.noAccess
  budget := 0
  total := 0
  halted := false
  haltReason := .none
  ready := true
  log := []
  cfg := Config.default
  draws := 0
  extra := 0
  started := false

end Sys2Proof.Machine
end

