-- ==== Sys2Proof/Machine/Flags.lean ====
section
/-! DEFINITION. The flags of PS (10_state.md R14 to R17) and every flag computation of the family files: the adder
(42_arithmetic.md R140), the compare (44_compare.md R160), BIT (43_logical.md R154), the shifts and rotates
(45_shift_rotate.md R171 to R174). All are functions of bytes. -/

namespace Sys2Proof.Machine

/-- The eight flags of PS (R15). -/
inductive Flag where
  | C | Z | I | D | B | U | V | N
  deriving DecidableEq, Repr

/-- The bit position of a flag in PS (R15). -/
def Flag.bit : Flag → Nat
  | .C => 0
  | .Z => 1
  | .I => 2
  | .D => 3
  | .B => 4
  | .U => 5
  | .V => 6
  | .N => 7

/-- The mask of a flag in PS (R15). -/
def Flag.mask : Flag → Byte
  | .C => 0x01
  | .Z => 0x02
  | .I => 0x04
  | .D => 0x08
  | .B => 0x10
  | .U => 0x20
  | .V => 0x40
  | .N => 0x80

/-- `PS.f`, read as one bit of PS (R14). -/
def flagOf (ps : Byte) (f : Flag) : Bool :=
  ps.getLsbD f.bit

/-- `PS.f <- b`: writes that one bit of PS and no other (R14). -/
def setFlag (ps : Byte) (f : Flag) (b : Bool) : Byte :=
  if b then ps ||| f.mask else ps &&& ~~~f.mask

/-- `SetZN(v)` (R17). -/
def withZN (ps v : Byte) : Byte :=
  setFlag (setFlag ps .Z (v == 0)) .N (v.getLsbD 7)

/-- The unbounded sum of the adder, `a + m + C` (R140). -/
def addSum (a m : Byte) (c : Bool) : Nat :=
  a.toNat + m.toNat + c.toNat

/-- The adder's result, the sum modulo 256 (R140). -/
def addResult (a m : Byte) (c : Bool) : Byte :=
  BitVec.ofNat 8 (addSum a m c)

/-- The adder's carry out (R140). -/
def addCarry (a m : Byte) (c : Bool) : Bool :=
  decide (0xFF < addSum a m c)

/-- The adder's signed overflow, from the old A, the operand as given to the adder and the new A (R140). -/
def addOverflow (a m r : Byte) : Bool :=
  (~~~(a ^^^ m) &&& (a ^^^ r) &&& 0x80) != 0

/-- PS after `AddCore(m)` with accumulator `a` (R140). -/
def addFlags (ps a m : Byte) : Byte :=
  let c := flagOf ps .C
  let r := addResult a m c
  withZN (setFlag (setFlag ps .C (addCarry a m c)) .V (addOverflow a m r)) r

/-- PS after `Compare(r, m)` (R160). -/
def compareFlags (ps r m : Byte) : Byte :=
  setFlag (setFlag (setFlag ps .C (decide (m ≤ r))) .Z (r == m)) .N ((r - m).getLsbD 7)

/-- PS after BIT with accumulator `a` and operand `m` (R154). -/
def bitFlags (ps a m : Byte) : Byte :=
  setFlag (setFlag (setFlag ps .N (m.getLsbD 7)) .V (m.getLsbD 6)) .Z ((a &&& m) == 0)

/-- The carry as a bit 0 value. -/
def carryBit (c : Bool) : Byte :=
  if c then 0x01 else 0x00

/-- ASL: the new value and the new carry (R171); the old carry is not used. -/
def aslStep (v : Byte) (_c : Bool) : Byte × Bool :=
  (v <<< 1, v.getLsbD 7)

/-- LSR: the new value and the new carry (R172); the old carry is not used. -/
def lsrStep (v : Byte) (_c : Bool) : Byte × Bool :=
  (v >>> 1, v.getLsbD 0)

/-- ROL: the old carry enters bit 0, the old bit 7 leaves into C (R173). -/
def rolStep (v : Byte) (c : Bool) : Byte × Bool :=
  ((v <<< 1) ||| carryBit c, v.getLsbD 7)

/-- ROR: the old carry enters bit 7, the old bit 0 leaves into C (R174). -/
def rorStep (v : Byte) (c : Bool) : Byte × Bool :=
  ((v >>> 1) ||| (carryBit c <<< 7), v.getLsbD 0)

end Sys2Proof.Machine
end

