-- ==== Sys2Proof/Machine/Ops.lean ====
section
/-! DEFINITION. The named operations over registers, memory and the bus: the memory array (10_state.md R24), the
register and latch updates, the bus transactions (20_memory.md R44, R45), the stack (48_stack_control.md R200 to
R202), charging (40_engine_and_addressing.md R107), halting (60_exceptions.md R240), trap entry and return
(R210, R209) and reset (70_reset_and_hazards.md R271). -/

namespace Sys2Proof.Machine

/-! ### The memory array -/

/-- What an address with no entry holds: "zero-initialized at power-on" (R24). -/
def Memory.unlisted : Byte := 0x00

/-- `MEM[a]`. -/
def Memory.read : Memory → Nat → Byte
  | [], _ => Memory.unlisted
  | c :: m, a => if c.1 = a then c.2 else Memory.read m a

/-- The entries of every address but `a`. -/
def Memory.erase (m : Memory) (a : Nat) : Memory :=
  m.filter (fun c => c.1 != a)

/-- An entry put before the first entry of a higher address. -/
def Memory.insert : Memory → Nat → Byte → Memory
  | [], a, v => [(a, v)]
  | c :: m, a, v => if a < c.1 then (a, v) :: c :: m else c :: Memory.insert m a v

/-- `MEM[a] <- v`, in canonical form: writing what an unlisted address holds removes the entry. -/
def Memory.write (m : Memory) (a : Nat) (v : Byte) : Memory :=
  if v = Memory.unlisted then Memory.erase m a else Memory.insert (Memory.erase m a) a v

/-- Every address of the list is above `lo`, the addresses rise strictly, each is a 16-bit address, and no
entry is what an unlisted address holds. -/
def Memory.wfAbove (lo : Nat) : Memory → Bool
  | [] => true
  | c :: m => decide (lo ≤ c.1) && decide (c.1 < 65536) && c.2 != Memory.unlisted && Memory.wfAbove (c.1 + 1) m

/-- The canonical form of the memory array. -/
def Memory.wf (m : Memory) : Bool :=
  Memory.wfAbove 0 m

/-! ### Registers, latches and the log -/

/-- `A <- v`. -/
def State.setA (s : State) (v : Byte) : State := { s with a := v }

/-- `X <- v`. -/
def State.setX (s : State) (v : Byte) : State := { s with x := v }

/-- `Y <- v`. -/
def State.setY (s : State) (v : Byte) : State := { s with y := v }

/-- `SP <- v`. -/
def State.setSP (s : State) (v : Byte) : State := { s with sp := v }

/-- `PS <- v`, all eight bits (R16). -/
def State.setPS (s : State) (v : Byte) : State := { s with ps := v }

/-- `PC <- w`. -/
def State.setPC (s : State) (w : Word) : State := { s with pc := w }

/-- `AT <- m` (R27). -/
def State.setAccess (s : State) (m : AccessMask) : State := { s with accessType := m }

/-- Hands the step `n` penalties: `extra <- n` (40_engine_and_addressing.md R101). -/
def State.setExtra (s : State) (n : Nat) : State := { s with extra := n }

/-- `MEM[a] <- v`, with no bus, no check, no event (00_scope.md R6). -/
def State.setMem (s : State) (a : Word) (v : Byte) : State := { s with mem := s.mem.write a.toNat v }

/-- `log(e)`: appends one event (R31). -/
def State.emit (s : State) (e : Event) : State := { s with log := s.log ++ [e] }

/-- One more device byte has been drawn (20_memory.md R50). -/
def State.drawn (s : State) : State := { s with draws := s.draws + 1 }

/-- `PS.f`. -/
def State.flag (s : State) (f : Flag) : Bool := flagOf s.ps f

/-- `PS.f <- b` (R14). -/
def State.putFlag (s : State) (f : Flag) (b : Bool) : State := s.setPS (setFlag s.ps f b)

/-- `SetZN(v)` (R17). -/
def State.setZN (s : State) (v : Byte) : State := s.setPS (withZN s.ps v)

/-- `charge(n)` (40_engine_and_addressing.md R107). -/
def State.charge (s : State) (n : Nat) : State :=
  { s with budget := s.budget - (n : Int), total := s.total + n }

/-- `raise Halt(reason)` (60_exceptions.md R240). -/
def State.raiseHalt (s : State) (r : HaltReason) : State := { s with halted := true, haltReason := r }

/-! ### The bus -/

/-- An address lies in a range, both ends inclusive. -/
def inRange (lo hi a : Word) : Bool :=
  decide (lo ≤ a) && decide (a ≤ hi)

/-- The kind of the first range that holds `a`, else `d`. -/
def regionIn (d : Region) : List RegionRange → Word → Region
  | [], _ => d
  | r :: rs, a => if inRange r.lo r.hi a then r.kind else regionIn d rs a

/-- `REGION(a)` (20_memory.md R42). -/
def regionOf (c : Config) (a : Word) : Region :=
  regionIn c.elsewhere c.regions a

/-- The index, counted from `k`, of the first device whose range holds `a`. -/
def deviceFrom (k : Nat) : List Device → Word → Option Nat
  | [], _ => none
  | d :: ds, a => if inRange d.lo d.hi a then some k else deviceFrom (k + 1) ds a

/-- `FirstDevice(a)`: the least index in registration order, both bounds inclusive (20_memory.md R49). -/
def firstDevice (c : Config) (a : Word) : Option Nat :=
  deviceFrom 0 c.devices a

/-- The permission gate `(AT AND 0b100) != 0` (20_memory.md R47). -/
def State.mayMmio (s : State) : Bool :=
  (s.accessType &&& 0b100) != 0

/-- The byte a bus read of `a` answers (20_memory.md R44, R46, R48, R49, R51). -/
def State.busByte (s : State) (a : Word) : Byte :=
  match regionOf s.cfg a with
  | .ram => s.mem.read a.toNat
  | .rom => s.mem.read a.toNat
  | .mmio =>
    if s.mayMmio then
      match firstDevice s.cfg a with
      | some i => Config.deviceByte s.draws i a
      | none => Config.unmatchedByte
    else Config.deniedByte

/-- The state after a bus read of `a`: its event, and a draw when a device answered (R44). -/
def State.afterRead (s : State) (a : Word) : State :=
  match regionOf s.cfg a with
  | .ram => s
  | .rom => s
  | .mmio =>
    if s.mayMmio then
      match firstDevice s.cfg a with
      | some i => s.drawn.emit (.deviceRead i a (Config.deviceByte s.draws i a))
      | none => s.emit (.mmioUnmatched .read a)
    else s.emit (.mmioPermissionDenied .read a)

/-- `MemWrite(a, 1, v)` (20_memory.md R45, R46, R48, R49, R51). -/
def State.busWrite (s : State) (a : Word) (v : Byte) : State :=
  match regionOf s.cfg a with
  | .ram => s.setMem a v
  | .rom => s.emit (.romWriteIgnored a v)
  | .mmio =>
    if s.mayMmio then
      match firstDevice s.cfg a with
      | some i => s.emit (.deviceWrite i a v)
      | none => s.emit (.mmioUnmatched (.write v) a)
    else s.emit (.mmioPermissionDenied (.write v) a)

/-- The value of two bus reads, the low byte at `lo`, then the high byte at `hi` (R56). -/
def State.busPair (s : State) (lo hi : Word) : Word :=
  wordOf ((s.afterRead lo).busByte hi) (s.busByte lo)

/-- The state after the two bus reads of `busPair`. -/
def State.afterPair (s : State) (lo hi : Word) : State :=
  (s.afterRead lo).afterRead hi

/-! ### The instruction stream -/

/-- The state after `Fetch8()`, whose value is `s.busByte s.pc` (40_engine_and_addressing.md R104). -/
def State.afterFetch (s : State) : State :=
  (s.afterRead s.pc).setPC (s.pc + 1)

/-- The values of `n` successive `Fetch8()`. -/
def State.fetchBytes : Nat → State → List Byte
  | 0, _ => []
  | n + 1, s => s.busByte s.pc :: State.fetchBytes n s.afterFetch

/-- The state after `n` successive `Fetch8()`. -/
def State.afterFetches : Nat → State → State
  | 0, s => s
  | n + 1, s => State.afterFetches n s.afterFetch

/-! ### The stack -/

/-- The stack cell of an SP value, `0x0100 OR zext_16(SP)` (10_state.md R12). -/
def stackAddr (sp : Byte) : Word :=
  0x0100 ||| sp.setWidth 16

/-- `Push(v)`: writes, then decrements SP (48_stack_control.md R200). -/
def State.push (s : State) (v : Byte) : State :=
  (s.busWrite (stackAddr s.sp) v).setSP (s.sp - 1)

/-- The value of `Pop()`: the byte at the incremented SP (48_stack_control.md R201). -/
def State.popByte (s : State) : Byte :=
  s.busByte (stackAddr (s.sp + 1))

/-- The state after `Pop()`: SP is incremented first, then the cell is read (R201). -/
def State.afterPop (s : State) : State :=
  (s.setSP (s.sp + 1)).afterRead (stackAddr (s.sp + 1))

/-- A 16-bit push, high byte first (R202). -/
def State.pushWord (s : State) (w : Word) : State :=
  (s.push (highByte w)).push (lowByte w)

/-- The value of a 16-bit pop, low byte first (R202). -/
def State.popWord (s : State) : Word :=
  wordOf s.afterPop.popByte s.popByte

/-- The state after a 16-bit pop (R202). -/
def State.afterPopWord (s : State) : State :=
  s.afterPop.afterPop

/-! ### Trap entry and return -/

/-- PS with bit 4 (B) forced to 1, the byte PHP and BRK push (48_stack_control.md R205, R210). -/
def pushedStatus (ps : Byte) : Byte :=
  ps ||| 0x10

/-- TAKING AN EXCEPTION: the entry of the one trap cause, BRK at address `pc0` (48_stack_control.md R210,
60_exceptions.md R251). Pushes `pc0 + 2` and `PS OR 0x10`, sets I, and loads PC from the vector by bus reads. -/
def State.enterTrap (s : State) (pc0 : Word) : State :=
  let saved := (s.pushWord (pc0 + 2)).push (pushedStatus s.ps)
  let masked := saved.putFlag .I true
  (masked.afterPair Config.breakVector (Config.breakVector + 1)).setPC
    (masked.busPair Config.breakVector (Config.breakVector + 1))

/-- RETURNING FROM IT: pops PS, all eight bits, then PC, with nothing added (48_stack_control.md R209,
60_exceptions.md R252). -/
def State.returnFromTrap (s : State) : State :=
  let restored := s.afterPop.setPS s.popByte
  restored.afterPopWord.setPC restored.popWord

/-- The end of a step at an unmapped opcode fetched from `pc0` (40_engine_and_addressing.md R101,
60_exceptions.md R242): one cycle, the event and the halt. -/
def State.stopIllegal (s : State) (op : Byte) (pc0 : Word) : State :=
  (((s.setAccess Config.noAccess).charge 1).emit (.illegalOpcode op pc0)).raiseHalt (.illegalOpcode op)

/-- The cycles `CYCLES(op)` gives the penalties Execute returned: `extra` is 0 for none, 1 for the first, 2 for both
(00_scope.md R4, 70_reset_and_hazards.md R292, R293, 47_branch.md R190). -/
def penaltyCycles (p : Penalty) (extra : Nat) : Nat :=
  match extra with
  | 0 => 0
  | 1 => p.first
  | _ => p.first + p.second

/-- An instruction's whole cost: the base cost of its opcode plus the penalties Execute returned (R107). -/
def stepCost (row : OpRow) (extra : Nat) : Nat :=
  row.base + penaltyCycles row.penalty extra

/-- The closing bookkeeping of a step of the opcode of `row`: `AT <- NONE`, one charge of the whole cost (R101,
R107). -/
def State.closeStep (s : State) (row : OpRow) : State :=
  ((s.setAccess Config.noAccess).charge (stepCost row s.extra)).setExtra 0

/-! ### Reset and the raw memory primitives -/

/-- `poke(a, v)` as the array write it is (10_state.md R25). -/
def State.rawPoke (s : State) (a : Word) (v : Byte) : State :=
  s.setMem a v

/-- `peek(a)` (10_state.md R25). -/
def State.peek (s : State) (a : Word) : Byte :=
  s.mem.read a.toNat

/-- Raw writes of successive bytes from address `a` on, modulo 65,536. -/
def State.pokeBytes (s : State) (a : Word) : List Byte → State
  | [] => s
  | v :: vs => State.pokeBytes (s.rawPoke a v) (a + 1) vs

/-- `reset()` (70_reset_and_hazards.md R271): the vector is read from MEM directly; MEM, BUDGET, TOTAL and LOG
are kept. -/
def State.applyReset (s : State) : State :=
  { s with
    a := 0x00
    x := 0x00
    y := 0x00
    sp := Config.resetSp
    ps := 0x00
    pc := wordOf (s.peek (Config.resetVector + 1)) (s.peek Config.resetVector)
    halted := false
    haltReason := .none
    accessType := Config.noAccess
    ready := true
    extra := 0
    started := false }

end Sys2Proof.Machine
end

