-- ==== Sys2Proof/Machine/Operands.lean ====
section
/-! DEFINITION. The addressing-mode resolvers (40_engine_and_addressing.md R113 to R123), `Operand(mode)` (R124)
and the penalties (70_reset_and_hazards.md R292, R293). The operand bytes of the instruction stream are fetched by
the step (Machine/Fetch.lean), so a resolver starts from the assembled operand; the bus reads it makes are the
pointer reads of its rule, in order. -/

namespace Sys2Proof.Machine

/-- `zext_16(v)`: an address in page 0 (00_scope.md R5). -/
def zeroPage (v : Byte) : Word :=
  v.setWidth 16

/-- `sext_16(v)`: the branch offset, sign-extended (R5, 30_encoding.md R85). -/
def signExtend16 (v : Byte) : Word :=
  v.signExtend 16

/-- Page crossing: the high bytes of two addresses differ (R123). -/
def pageDiffers (a b : Word) : Bool :=
  highByte a != highByte b

/-- The second byte's address of a page-0 pointer at `z`: `z + 1` modulo 256 (R120, R121). -/
def zeroPageNext (z : Byte) : Word :=
  zeroPage (z + 1)

/-- The second byte's address of an indirect JMP pointer: the same page (R119). -/
def samePageNext (p : Word) : Word :=
  wordOf (highByte p) (lowByte p + 1)

/-- The page-0 byte at which a memory form's pointer stands, for the two indirect forms (R120, R121). -/
def State.pointerByte (s : State) : MemForm → Option Byte
  | .indx b => some (b + s.x)
  | .indy b => some b
  | _ => none

/-- The state after a resolver's bus reads: the two pointer reads of `indx` and `indy`, nothing else. -/
def State.afterEa (s : State) (m : MemForm) : State :=
  match s.pointerByte m with
  | some z => s.afterPair (zeroPage z) (zeroPageNext z)
  | none => s

/-- The address a resolver starts from before an index is added to it: the `base` of R117, R118, R121. -/
def State.eaBase (s : State) : MemForm → Word
  | .zp b => zeroPage b
  | .zpx b => zeroPage (b + s.x)
  | .zpy b => zeroPage (b + s.y)
  | .abs w => w
  | .absx w => w
  | .absy w => w
  | .indx b => s.busPair (zeroPage (b + s.x)) (zeroPageNext (b + s.x))
  | .indy b => s.busPair (zeroPage b) (zeroPageNext b)

/-- `EA_<mode>()`, the effective address (R113 to R118, R120, R121). -/
def State.ea (s : State) (m : MemForm) : Word :=
  match m with
  | .absx _ => s.eaBase m + s.x.setWidth 16
  | .absy _ => s.eaBase m + s.y.setWidth 16
  | .indy _ => s.eaBase m + s.y.setWidth 16
  | _ => s.eaBase m

/-- `crossed`, the boolean a resolver returns with the effective address (R117, R118, R121, R123). -/
def State.crossed (s : State) (m : MemForm) : Bool :=
  match m with
  | .absx _ => pageDiffers (s.ea m) (s.eaBase m)
  | .absy _ => pageDiffers (s.ea m) (s.eaBase m)
  | .indy _ => pageDiffers (s.ea m) (s.eaBase m)
  | _ => false

/-- `EA_ind()`: the target of the indirect JMP through the pointer `p` (R119). -/
def State.indirectTarget (s : State) (p : Word) : Word :=
  s.busPair p (samePageNext p)

/-- The state after the two pointer reads of `EA_ind()` (R119). -/
def State.afterIndirect (s : State) (p : Word) : State :=
  s.afterPair p (samePageNext p)

/-- `EA_rel()`: the branch target from the following instruction's address (R122). -/
def relTarget (next : Word) (off : Byte) : Word :=
  next + signExtend16 off

/-- The byte of a memory operand: the one data read, after the resolver's reads (R124). -/
def State.cellByte (s : State) (m : MemForm) : Byte :=
  (s.afterEa m).busByte (s.ea m)

/-- The state after the one data read of a memory operand (R124). -/
def State.afterCell (s : State) (m : MemForm) : State :=
  (s.afterEa m).afterRead (s.ea m)

/-- The value of `Operand(mode)` (R124). -/
def State.operandByte (s : State) : ReadForm → Byte
  | .imm v => v
  | .mem m => s.cellByte m

/-- The state after `Operand(mode)` (R124). -/
def State.afterOperand (s : State) : ReadForm → State
  | .imm _ => s
  | .mem m => s.afterCell m

/-- The forms that pay an indexing penalty: `absx`, `absy`, `indy`. -/
def indexed16 : MemForm → Bool
  | .absx _ => true
  | .absy _ => true
  | .indy _ => true
  | _ => false

/-- The penalty of a read operand: 1 when the form is `absx`, `absy` or `indy` and a page was crossed (R292). -/
def State.readPenalty (s : State) : ReadForm → Nat
  | .imm _ => 0
  | .mem m => if s.crossed m && indexed16 m then 1 else 0

/-- The penalty of STA: 1 in `absx`, `absy`, `indy` when STORE_INDEXED_PENALTY is `always`, whatever `crossed`
is (R293). -/
def State.storePenalty (s : State) (m : MemForm) : Nat :=
  if indexed16 m && decide (s.cfg.storePenalty = .always) then 1 else 0

end Sys2Proof.Machine
end

