-- ==== Sys2Proof/Machine/Arithmetic.lean ====
section
/-! DEFINITION. Arithmetic (42_arithmetic.md R140 to R143): ADC and SBC over the one adder, binary whatever D holds. -/

namespace Sys2Proof.Machine

/-- `AddCore(m)` (R140): A and the carry are read before anything is written. -/
def State.addCore (s : State) (m : Byte) : State :=
  (s.setA (addResult s.a m (s.flag .C))).setPS (addFlags s.ps s.a m)

/-- ADC (R141), with the read penalty. -/
def State.adc (s : State) (f : ReadForm) : State :=
  ((s.afterOperand f).addCore (s.operandByte f)).setExtra (s.readPenalty f)

/-- SBC (R143): the adder on the ones-complement of the operand, with the read penalty. -/
def State.sbc (s : State) (f : ReadForm) : State :=
  ((s.afterOperand f).addCore (~~~(s.operandByte f))).setExtra (s.readPenalty f)

/-- ADC imm (R141, R112). -/
def execAdcImm (v : Byte) (s : State) : Host.Outcome State Fault Refusal :=
  .next (s.adc (.imm v))

/-- ADC zp (R141, R113). -/
def execAdcZp (b : Byte) (s : State) : Host.Outcome State Fault Refusal :=
  .next (s.adc (.mem (.zp b)))

/-- ADC zpx (R141, R114). -/
def execAdcZpx (b : Byte) (s : State) : Host.Outcome State Fault Refusal :=
  .next (s.adc (.mem (.zpx b)))

/-- ADC abs (R141, R116). -/
def execAdcAbs (w : Word) (s : State) : Host.Outcome State Fault Refusal :=
  .next (s.adc (.mem (.abs w)))

/-- ADC absx (R141, R117). -/
def execAdcAbsx (w : Word) (s : State) : Host.Outcome State Fault Refusal :=
  .next (s.adc (.mem (.absx w)))

/-- ADC absy (R141, R118). -/
def execAdcAbsy (w : Word) (s : State) : Host.Outcome State Fault Refusal :=
  .next (s.adc (.mem (.absy w)))

/-- ADC indx (R141, R120). -/
def execAdcIndx (b : Byte) (s : State) : Host.Outcome State Fault Refusal :=
  .next (s.adc (.mem (.indx b)))

/-- ADC indy (R141, R121). -/
def execAdcIndy (b : Byte) (s : State) : Host.Outcome State Fault Refusal :=
  .next (s.adc (.mem (.indy b)))

/-- SBC imm (R143, R112). -/
def execSbcImm (v : Byte) (s : State) : Host.Outcome State Fault Refusal :=
  .next (s.sbc (.imm v))

/-- SBC zp (R143, R113). -/
def execSbcZp (b : Byte) (s : State) : Host.Outcome State Fault Refusal :=
  .next (s.sbc (.mem (.zp b)))

/-- SBC zpx (R143, R114). -/
def execSbcZpx (b : Byte) (s : State) : Host.Outcome State Fault Refusal :=
  .next (s.sbc (.mem (.zpx b)))

/-- SBC abs (R143, R116). -/
def execSbcAbs (w : Word) (s : State) : Host.Outcome State Fault Refusal :=
  .next (s.sbc (.mem (.abs w)))

/-- SBC absx (R143, R117). -/
def execSbcAbsx (w : Word) (s : State) : Host.Outcome State Fault Refusal :=
  .next (s.sbc (.mem (.absx w)))

/-- SBC absy (R143, R118). -/
def execSbcAbsy (w : Word) (s : State) : Host.Outcome State Fault Refusal :=
  .next (s.sbc (.mem (.absy w)))

/-- SBC indx (R143, R120). -/
def execSbcIndx (b : Byte) (s : State) : Host.Outcome State Fault Refusal :=
  .next (s.sbc (.mem (.indx b)))

/-- SBC indy (R143, R121). -/
def execSbcIndy (b : Byte) (s : State) : Host.Outcome State Fault Refusal :=
  .next (s.sbc (.mem (.indy b)))

end Sys2Proof.Machine
end

