-- ==== Sys2Proof/Machine/Branch.lean ====
section
/-! DEFINITION. Conditional branches (47_branch.md R190 to R198). -/

namespace Sys2Proof.Machine

/-- `Branch(cond)` (R190): PC is the following instruction's address when the branch executes; a taken branch
goes to the target and costs 1, or 2 when the page differs. -/
def State.branch (s : State) (cond : Bool) (off : Byte) : State :=
  if cond then
    (s.setPC (relTarget s.pc off)).setExtra (if pageDiffers (relTarget s.pc off) s.pc then 2 else 1)
  else s.setExtra 0

/-- BCC rel (R191, R122): branch if C = 0. -/
def execBcc (off : Byte) (s : State) : Host.Outcome State Fault Refusal :=
  .next (s.branch (!s.flag .C) off)

/-- BCS rel (R192, R122): branch if C = 1. -/
def execBcs (off : Byte) (s : State) : Host.Outcome State Fault Refusal :=
  .next (s.branch (s.flag .C) off)

/-- BEQ rel (R193, R122): branch if Z = 1. -/
def execBeq (off : Byte) (s : State) : Host.Outcome State Fault Refusal :=
  .next (s.branch (s.flag .Z) off)

/-- BNE rel (R194, R122): branch if Z = 0. -/
def execBne (off : Byte) (s : State) : Host.Outcome State Fault Refusal :=
  .next (s.branch (!s.flag .Z) off)

/-- BMI rel (R195, R122): branch if N = 1. -/
def execBmi (off : Byte) (s : State) : Host.Outcome State Fault Refusal :=
  .next (s.branch (s.flag .N) off)

/-- BPL rel (R196, R122): branch if N = 0. -/
def execBpl (off : Byte) (s : State) : Host.Outcome State Fault Refusal :=
  .next (s.branch (!s.flag .N) off)

/-- BVC rel (R197, R122): branch if V = 0. -/
def execBvc (off : Byte) (s : State) : Host.Outcome State Fault Refusal :=
  .next (s.branch (!s.flag .V) off)

/-- BVS rel (R198, R122): branch if V = 1. -/
def execBvs (off : Byte) (s : State) : Host.Outcome State Fault Refusal :=
  .next (s.branch (s.flag .V) off)

end Sys2Proof.Machine
end

