-- ==== Sys2Proof/Machine/Compare.lean ====
section
/-! DEFINITION. Compare (44_compare.md R160 to R163): CMP CPX CPY write C, Z and N only. -/

namespace Sys2Proof.Machine

/-- `Compare(r, m)` on the operand of `f` (R160). -/
def State.compare (s : State) (r : Byte) (f : ReadForm) : State :=
  (s.afterOperand f).setPS (compareFlags s.ps r (s.operandByte f))

/-- CMP (R161), with the read penalty. -/
def State.cmp (s : State) (f : ReadForm) : State :=
  (s.compare s.a f).setExtra (s.readPenalty f)

/-- CPX (R162), no penalty. -/
def State.cpx (s : State) (f : ReadForm) : State :=
  (s.compare s.x f).setExtra 0

/-- CPY (R163), no penalty. -/
def State.cpy (s : State) (f : ReadForm) : State :=
  (s.compare s.y f).setExtra 0

/-- CMP imm (R161, R112). -/
def execCmpImm (v : Byte) (s : State) : Host.Outcome State Fault Refusal :=
  .next (s.cmp (.imm v))

/-- CMP zp (R161, R113). -/
def execCmpZp (b : Byte) (s : State) : Host.Outcome State Fault Refusal :=
  .next (s.cmp (.mem (.zp b)))

/-- CMP zpx (R161, R114). -/
def execCmpZpx (b : Byte) (s : State) : Host.Outcome State Fault Refusal :=
  .next (s.cmp (.mem (.zpx b)))

/-- CMP abs (R161, R116). -/
def execCmpAbs (w : Word) (s : State) : Host.Outcome State Fault Refusal :=
  .next (s.cmp (.mem (.abs w)))

/-- CMP absx (R161, R117). -/
def execCmpAbsx (w : Word) (s : State) : Host.Outcome State Fault Refusal :=
  .next (s.cmp (.mem (.absx w)))

/-- CMP absy (R161, R118). -/
def execCmpAbsy (w : Word) (s : State) : Host.Outcome State Fault Refusal :=
  .next (s.cmp (.mem (.absy w)))

/-- CMP indx (R161, R120). -/
def execCmpIndx (b : Byte) (s : State) : Host.Outcome State Fault Refusal :=
  .next (s.cmp (.mem (.indx b)))

/-- CMP indy (R161, R121). -/
def execCmpIndy (b : Byte) (s : State) : Host.Outcome State Fault Refusal :=
  .next (s.cmp (.mem (.indy b)))

/-- CPX imm (R162, R112). -/
def execCpxImm (v : Byte) (s : State) : Host.Outcome State Fault Refusal :=
  .next (s.cpx (.imm v))

/-- CPX zp (R162, R113). -/
def execCpxZp (b : Byte) (s : State) : Host.Outcome State Fault Refusal :=
  .next (s.cpx (.mem (.zp b)))

/-- CPX abs (R162, R116). -/
def execCpxAbs (w : Word) (s : State) : Host.Outcome State Fault Refusal :=
  .next (s.cpx (.mem (.abs w)))

/-- CPY imm (R163, R112). -/
def execCpyImm (v : Byte) (s : State) : Host.Outcome State Fault Refusal :=
  .next (s.cpy (.imm v))

/-- CPY zp (R163, R113). -/
def execCpyZp (b : Byte) (s : State) : Host.Outcome State Fault Refusal :=
  .next (s.cpy (.mem (.zp b)))

/-- CPY abs (R163, R116). -/
def execCpyAbs (w : Word) (s : State) : Host.Outcome State Fault Refusal :=
  .next (s.cpy (.mem (.abs w)))

end Sys2Proof.Machine
end

