-- ==== Sys2Proof/Machine/FlagsNopTransfers.lean ====
section
/-! DEFINITION. Flag instructions, NOP and register transfers (49_flags_nop_transfers.md R220 to R235). -/

namespace Sys2Proof.Machine

/-- CLC imp (R221): clear carry. -/
def execClc (s : State) : Host.Outcome State Fault Refusal :=
  .next ((s.putFlag .C false).setExtra 0)

/-- SEC imp (R222): set carry. -/
def execSec (s : State) : Host.Outcome State Fault Refusal :=
  .next ((s.putFlag .C true).setExtra 0)

/-- CLD imp (R223): clear decimal. -/
def execCld (s : State) : Host.Outcome State Fault Refusal :=
  .next ((s.putFlag .D false).setExtra 0)

/-- SED imp (R224): set decimal. -/
def execSed (s : State) : Host.Outcome State Fault Refusal :=
  .next ((s.putFlag .D true).setExtra 0)

/-- CLI imp (R225): clear interrupt disable. -/
def execCli (s : State) : Host.Outcome State Fault Refusal :=
  .next ((s.putFlag .I false).setExtra 0)

/-- SEI imp (R226): set interrupt disable. -/
def execSei (s : State) : Host.Outcome State Fault Refusal :=
  .next ((s.putFlag .I true).setExtra 0)

/-- CLV imp (R227): clear overflow. -/
def execClv (s : State) : Host.Outcome State Fault Refusal :=
  .next ((s.putFlag .V false).setExtra 0)

/-- NOP imp (R228): no effect; PC has advanced through the fetch. -/
def execNop (s : State) : Host.Outcome State Fault Refusal :=
  .next (s.setExtra 0)

/-- TAX imp (R230): A to X. -/
def execTax (s : State) : Host.Outcome State Fault Refusal :=
  .next (((s.setX s.a).setZN s.a).setExtra 0)

/-- TAY imp (R231): A to Y. -/
def execTay (s : State) : Host.Outcome State Fault Refusal :=
  .next (((s.setY s.a).setZN s.a).setExtra 0)

/-- TXA imp (R232): X to A. -/
def execTxa (s : State) : Host.Outcome State Fault Refusal :=
  .next (((s.setA s.x).setZN s.x).setExtra 0)

/-- TYA imp (R233): Y to A. -/
def execTya (s : State) : Host.Outcome State Fault Refusal :=
  .next (((s.setA s.y).setZN s.y).setExtra 0)

/-- TSX imp (R234): SP to X. -/
def execTsx (s : State) : Host.Outcome State Fault Refusal :=
  .next (((s.setX s.sp).setZN s.sp).setExtra 0)

/-- TXS imp (R235): X to SP, no flag written. -/
def execTxs (s : State) : Host.Outcome State Fault Refusal :=
  .next ((s.setSP s.x).setExtra 0)

end Sys2Proof.Machine
end

