-- ==== Sys2Proof/Machine/IncDec.lean ====
section
/-! DEFINITION. Increment and decrement (46_inc_dec.md R180 to R186): INC DEC on a memory cell, INX INY DEX DEY on a
register; C and V are neither read nor written. -/

namespace Sys2Proof.Machine

/-- The read-modify-write of INC and DEC (R180): one read, one write of the old value plus `d` modulo 256, Z and
N from the value handed to the bus, no penalty. -/
def State.bumpCell (s : State) (m : MemForm) (d : Byte) : State :=
  (((s.afterCell m).busWrite (s.ea m) (s.cellByte m + d)).setZN (s.cellByte m + d)).setExtra 0

/-- INC (R181). -/
def State.inc (s : State) (m : MemForm) : State :=
  s.bumpCell m 1

/-- DEC (R182): the old value minus 1 modulo 256, which is plus 255. -/
def State.dec (s : State) (m : MemForm) : State :=
  s.bumpCell m (-1)

/-- INC zp (R181, R113). -/
def execIncZp (b : Byte) (s : State) : Host.Outcome State Fault Refusal :=
  .next (s.inc (.zp b))

/-- INC zpx (R181, R114). -/
def execIncZpx (b : Byte) (s : State) : Host.Outcome State Fault Refusal :=
  .next (s.inc (.zpx b))

/-- INC abs (R181, R116). -/
def execIncAbs (w : Word) (s : State) : Host.Outcome State Fault Refusal :=
  .next (s.inc (.abs w))

/-- INC absx (R181, R117). -/
def execIncAbsx (w : Word) (s : State) : Host.Outcome State Fault Refusal :=
  .next (s.inc (.absx w))

/-- DEC zp (R182, R113). -/
def execDecZp (b : Byte) (s : State) : Host.Outcome State Fault Refusal :=
  .next (s.dec (.zp b))

/-- DEC zpx (R182, R114). -/
def execDecZpx (b : Byte) (s : State) : Host.Outcome State Fault Refusal :=
  .next (s.dec (.zpx b))

/-- DEC abs (R182, R116). -/
def execDecAbs (w : Word) (s : State) : Host.Outcome State Fault Refusal :=
  .next (s.dec (.abs w))

/-- DEC absx (R182, R117). -/
def execDecAbsx (w : Word) (s : State) : Host.Outcome State Fault Refusal :=
  .next (s.dec (.absx w))

/-- INX imp (R183): increment X modulo 256. -/
def execInx (s : State) : Host.Outcome State Fault Refusal :=
  .next (((s.setX (s.x + 1)).setZN (s.x + 1)).setExtra 0)

/-- INY imp (R184): increment Y modulo 256. -/
def execIny (s : State) : Host.Outcome State Fault Refusal :=
  .next (((s.setY (s.y + 1)).setZN (s.y + 1)).setExtra 0)

/-- DEX imp (R185): decrement X modulo 256. -/
def execDex (s : State) : Host.Outcome State Fault Refusal :=
  .next (((s.setX (s.x - 1)).setZN (s.x - 1)).setExtra 0)

/-- DEY imp (R186): decrement Y modulo 256. -/
def execDey (s : State) : Host.Outcome State Fault Refusal :=
  .next (((s.setY (s.y - 1)).setZN (s.y - 1)).setExtra 0)

end Sys2Proof.Machine
end

