-- ==== Sys2Proof/Machine/LoadStore.lean ====
section
/-! DEFINITION. Load and store (41_load_store.md R130 to R136): LDA LDX LDY STA STX STY. One shared operation per
mnemonic, then one meaning per row of the opcode table. -/

namespace Sys2Proof.Machine

/-- LDA (R131): `A <- v; SetZN(v)`, with the read penalty. -/
def State.lda (s : State) (f : ReadForm) : State :=
  (((s.afterOperand f).setA (s.operandByte f)).setZN (s.operandByte f)).setExtra (s.readPenalty f)

/-- LDX (R132): `X <- v; SetZN(v)`, with the read penalty. -/
def State.ldx (s : State) (f : ReadForm) : State :=
  (((s.afterOperand f).setX (s.operandByte f)).setZN (s.operandByte f)).setExtra (s.readPenalty f)

/-- LDY (R133): `Y <- v; SetZN(v)`, with the read penalty. -/
def State.ldy (s : State) (f : ReadForm) : State :=
  (((s.afterOperand f).setY (s.operandByte f)).setZN (s.operandByte f)).setExtra (s.readPenalty f)

/-- A store (R130): one bus write of `v` at the effective address, no register and no flag written. -/
def State.storeByte (s : State) (m : MemForm) (v : Byte) : State :=
  (s.afterEa m).busWrite (s.ea m) v

/-- STA (R134): stores A, with the store penalty. -/
def State.sta (s : State) (m : MemForm) : State :=
  (s.storeByte m s.a).setExtra (s.storePenalty m)

/-- STX (R135): stores X, no penalty. -/
def State.stx (s : State) (m : MemForm) : State :=
  (s.storeByte m s.x).setExtra 0

/-- STY (R136): stores Y, no penalty. -/
def State.sty (s : State) (m : MemForm) : State :=
  (s.storeByte m s.y).setExtra 0

/-- LDA imm (R131, R112). -/
def execLdaImm (v : Byte) (s : State) : Host.Outcome State Fault Refusal :=
  .next (s.lda (.imm v))

/-- LDA zp (R131, R113). -/
def execLdaZp (b : Byte) (s : State) : Host.Outcome State Fault Refusal :=
  .next (s.lda (.mem (.zp b)))

/-- LDA zpx (R131, R114). -/
def execLdaZpx (b : Byte) (s : State) : Host.Outcome State Fault Refusal :=
  .next (s.lda (.mem (.zpx b)))

/-- LDA abs (R131, R116). -/
def execLdaAbs (w : Word) (s : State) : Host.Outcome State Fault Refusal :=
  .next (s.lda (.mem (.abs w)))

/-- LDA absx (R131, R117). -/
def execLdaAbsx (w : Word) (s : State) : Host.Outcome State Fault Refusal :=
  .next (s.lda (.mem (.absx w)))

/-- LDA absy (R131, R118). -/
def execLdaAbsy (w : Word) (s : State) : Host.Outcome State Fault Refusal :=
  .next (s.lda (.mem (.absy w)))

/-- LDA indx (R131, R120). -/
def execLdaIndx (b : Byte) (s : State) : Host.Outcome State Fault Refusal :=
  .next (s.lda (.mem (.indx b)))

/-- LDA indy (R131, R121). -/
def execLdaIndy (b : Byte) (s : State) : Host.Outcome State Fault Refusal :=
  .next (s.lda (.mem (.indy b)))

/-- LDX imm (R132, R112). -/
def execLdxImm (v : Byte) (s : State) : Host.Outcome State Fault Refusal :=
  .next (s.ldx (.imm v))

/-- LDX zp (R132, R113). -/
def execLdxZp (b : Byte) (s : State) : Host.Outcome State Fault Refusal :=
  .next (s.ldx (.mem (.zp b)))

/-- LDX zpy (R132, R115). -/
def execLdxZpy (b : Byte) (s : State) : Host.Outcome State Fault Refusal :=
  .next (s.ldx (.mem (.zpy b)))

/-- LDX abs (R132, R116). -/
def execLdxAbs (w : Word) (s : State) : Host.Outcome State Fault Refusal :=
  .next (s.ldx (.mem (.abs w)))

/-- LDX absy (R132, R118). -/
def execLdxAbsy (w : Word) (s : State) : Host.Outcome State Fault Refusal :=
  .next (s.ldx (.mem (.absy w)))

/-- LDY imm (R133, R112). -/
def execLdyImm (v : Byte) (s : State) : Host.Outcome State Fault Refusal :=
  .next (s.ldy (.imm v))

/-- LDY zp (R133, R113). -/
def execLdyZp (b : Byte) (s : State) : Host.Outcome State Fault Refusal :=
  .next (s.ldy (.mem (.zp b)))

/-- LDY zpx (R133, R114). -/
def execLdyZpx (b : Byte) (s : State) : Host.Outcome State Fault Refusal :=
  .next (s.ldy (.mem (.zpx b)))

/-- LDY abs (R133, R116). -/
def execLdyAbs (w : Word) (s : State) : Host.Outcome State Fault Refusal :=
  .next (s.ldy (.mem (.abs w)))

/-- LDY absx (R133, R117). -/
def execLdyAbsx (w : Word) (s : State) : Host.Outcome State Fault Refusal :=
  .next (s.ldy (.mem (.absx w)))

/-- STA zp (R134, R113). -/
def execStaZp (b : Byte) (s : State) : Host.Outcome State Fault Refusal :=
  .next (s.sta (.zp b))

/-- STA zpx (R134, R114). -/
def execStaZpx (b : Byte) (s : State) : Host.Outcome State Fault Refusal :=
  .next (s.sta (.zpx b))

/-- STA abs (R134, R116). -/
def execStaAbs (w : Word) (s : State) : Host.Outcome State Fault Refusal :=
  .next (s.sta (.abs w))

/-- STA absx (R134, R117). -/
def execStaAbsx (w : Word) (s : State) : Host.Outcome State Fault Refusal :=
  .next (s.sta (.absx w))

/-- STA absy (R134, R118). -/
def execStaAbsy (w : Word) (s : State) : Host.Outcome State Fault Refusal :=
  .next (s.sta (.absy w))

/-- STA indx (R134, R120). -/
def execStaIndx (b : Byte) (s : State) : Host.Outcome State Fault Refusal :=
  .next (s.sta (.indx b))

/-- STA indy (R134, R121). -/
def execStaIndy (b : Byte) (s : State) : Host.Outcome State Fault Refusal :=
  .next (s.sta (.indy b))

/-- STX zp (R135, R113). -/
def execStxZp (b : Byte) (s : State) : Host.Outcome State Fault Refusal :=
  .next (s.stx (.zp b))

/-- STX zpy (R135, R115). -/
def execStxZpy (b : Byte) (s : State) : Host.Outcome State Fault Refusal :=
  .next (s.stx (.zpy b))

/-- STX abs (R135, R116). -/
def execStxAbs (w : Word) (s : State) : Host.Outcome State Fault Refusal :=
  .next (s.stx (.abs w))

/-- STY zp (R136, R113). -/
def execStyZp (b : Byte) (s : State) : Host.Outcome State Fault Refusal :=
  .next (s.sty (.zp b))

/-- STY zpx (R136, R114). -/
def execStyZpx (b : Byte) (s : State) : Host.Outcome State Fault Refusal :=
  .next (s.sty (.zpx b))

/-- STY abs (R136, R116). -/
def execStyAbs (w : Word) (s : State) : Host.Outcome State Fault Refusal :=
  .next (s.sty (.abs w))

end Sys2Proof.Machine
end

