-- ==== Sys2Proof/Machine/Logical.lean ====
section
/-! DEFINITION. Logical (43_logical.md R150 to R154): AND ORA EOR write A, Z and N; BIT writes N, V and Z only. -/

namespace Sys2Proof.Machine

/-- `A <- v; SetZN(A)` after the operand `f` has been read, with the read penalty (R150). -/
def State.logicResult (s : State) (f : ReadForm) (v : Byte) : State :=
  (((s.afterOperand f).setA v).setZN v).setExtra (s.readPenalty f)

/-- AND (R151). -/
def State.and (s : State) (f : ReadForm) : State :=
  s.logicResult f (s.a &&& s.operandByte f)

/-- ORA (R152). -/
def State.ora (s : State) (f : ReadForm) : State :=
  s.logicResult f (s.a ||| s.operandByte f)

/-- EOR (R153). -/
def State.eor (s : State) (f : ReadForm) : State :=
  s.logicResult f (s.a ^^^ s.operandByte f)

/-- BIT (R154): N and V from the operand, Z from the AND; A is not modified and there is no penalty. -/
def State.bit (s : State) (f : ReadForm) : State :=
  ((s.afterOperand f).setPS (bitFlags s.ps s.a (s.operandByte f))).setExtra 0

/-- AND imm (R151, R112). -/
def execAndImm (v : Byte) (s : State) : Host.Outcome State Fault Refusal :=
  .next (s.and (.imm v))

/-- AND zp (R151, R113). -/
def execAndZp (b : Byte) (s : State) : Host.Outcome State Fault Refusal :=
  .next (s.and (.mem (.zp b)))

/-- AND zpx (R151, R114). -/
def execAndZpx (b : Byte) (s : State) : Host.Outcome State Fault Refusal :=
  .next (s.and (.mem (.zpx b)))

/-- AND abs (R151, R116). -/
def execAndAbs (w : Word) (s : State) : Host.Outcome State Fault Refusal :=
  .next (s.and (.mem (.abs w)))

/-- AND absx (R151, R117). -/
def execAndAbsx (w : Word) (s : State) : Host.Outcome State Fault Refusal :=
  .next (s.and (.mem (.absx w)))

/-- AND absy (R151, R118). -/
def execAndAbsy (w : Word) (s : State) : Host.Outcome State Fault Refusal :=
  .next (s.and (.mem (.absy w)))

/-- AND indx (R151, R120). -/
def execAndIndx (b : Byte) (s : State) : Host.Outcome State Fault Refusal :=
  .next (s.and (.mem (.indx b)))

/-- AND indy (R151, R121). -/
def execAndIndy (b : Byte) (s : State) : Host.Outcome State Fault Refusal :=
  .next (s.and (.mem (.indy b)))

/-- ORA imm (R152, R112). -/
def execOraImm (v : Byte) (s : State) : Host.Outcome State Fault Refusal :=
  .next (s.ora (.imm v))

/-- ORA zp (R152, R113). -/
def execOraZp (b : Byte) (s : State) : Host.Outcome State Fault Refusal :=
  .next (s.ora (.mem (.zp b)))

/-- ORA zpx (R152, R114). -/
def execOraZpx (b : Byte) (s : State) : Host.Outcome State Fault Refusal :=
  .next (s.ora (.mem (.zpx b)))

/-- ORA abs (R152, R116). -/
def execOraAbs (w : Word) (s : State) : Host.Outcome State Fault Refusal :=
  .next (s.ora (.mem (.abs w)))

/-- ORA absx (R152, R117). -/
def execOraAbsx (w : Word) (s : State) : Host.Outcome State Fault Refusal :=
  .next (s.ora (.mem (.absx w)))

/-- ORA absy (R152, R118). -/
def execOraAbsy (w : Word) (s : State) : Host.Outcome State Fault Refusal :=
  .next (s.ora (.mem (.absy w)))

/-- ORA indx (R152, R120). -/
def execOraIndx (b : Byte) (s : State) : Host.Outcome State Fault Refusal :=
  .next (s.ora (.mem (.indx b)))

/-- ORA indy (R152, R121). -/
def execOraIndy (b : Byte) (s : State) : Host.Outcome State Fault Refusal :=
  .next (s.ora (.mem (.indy b)))

/-- EOR imm (R153, R112). -/
def execEorImm (v : Byte) (s : State) : Host.Outcome State Fault Refusal :=
  .next (s.eor (.imm v))

/-- EOR zp (R153, R113). -/
def execEorZp (b : Byte) (s : State) : Host.Outcome State Fault Refusal :=
  .next (s.eor (.mem (.zp b)))

/-- EOR zpx (R153, R114). -/
def execEorZpx (b : Byte) (s : State) : Host.Outcome State Fault Refusal :=
  .next (s.eor (.mem (.zpx b)))

/-- EOR abs (R153, R116). -/
def execEorAbs (w : Word) (s : State) : Host.Outcome State Fault Refusal :=
  .next (s.eor (.mem (.abs w)))

/-- EOR absx (R153, R117). -/
def execEorAbsx (w : Word) (s : State) : Host.Outcome State Fault Refusal :=
  .next (s.eor (.mem (.absx w)))

/-- EOR absy (R153, R118). -/
def execEorAbsy (w : Word) (s : State) : Host.Outcome State Fault Refusal :=
  .next (s.eor (.mem (.absy w)))

/-- EOR indx (R153, R120). -/
def execEorIndx (b : Byte) (s : State) : Host.Outcome State Fault Refusal :=
  .next (s.eor (.mem (.indx b)))

/-- EOR indy (R153, R121). -/
def execEorIndy (b : Byte) (s : State) : Host.Outcome State Fault Refusal :=
  .next (s.eor (.mem (.indy b)))

/-- BIT zp (R154, R113). -/
def execBitZp (b : Byte) (s : State) : Host.Outcome State Fault Refusal :=
  .next (s.bit (.mem (.zp b)))

/-- BIT abs (R154, R116). -/
def execBitAbs (w : Word) (s : State) : Host.Outcome State Fault Refusal :=
  .next (s.bit (.mem (.abs w)))

end Sys2Proof.Machine
end

