-- ==== Sys2Proof/Machine/ShiftRotate.lean ====
section
/-! DEFINITION. Shift and rotate (45_shift_rotate.md R170 to R174): ASL LSR ROL ROR on A or one memory cell. -/

namespace Sys2Proof.Machine

/-- `PS.C <- c'; SetZN(v')`, the flags of a shift (R170). -/
def State.shiftFlags (s : State) (r : Byte × Bool) : State :=
  (s.putFlag .C r.2).setZN r.1

/-- `RMW(mode, f)` (R170): A without a bus transaction, or one read and one write of the cell; Z and N come
from the value handed to the bus, and no penalty is returned. -/
def State.shift (s : State) (f : RmwForm) (step : Byte → Bool → Byte × Bool) : State :=
  match f with
  | .acc => ((s.setA (step s.a (s.flag .C)).1).shiftFlags (step s.a (s.flag .C))).setExtra 0
  | .mem m =>
    (((s.afterCell m).busWrite (s.ea m) (step (s.cellByte m) (s.flag .C)).1).shiftFlags
      (step (s.cellByte m) (s.flag .C))).setExtra 0

/-- ASL (R171). -/
def State.asl (s : State) (f : RmwForm) : State :=
  s.shift f aslStep

/-- LSR (R172). -/
def State.lsr (s : State) (f : RmwForm) : State :=
  s.shift f lsrStep

/-- ROL (R173). -/
def State.rol (s : State) (f : RmwForm) : State :=
  s.shift f rolStep

/-- ROR (R174). -/
def State.ror (s : State) (f : RmwForm) : State :=
  s.shift f rorStep

/-- ASL acc (R171, R111). -/
def execAslAcc (s : State) : Host.Outcome State Fault Refusal :=
  .next (s.asl .acc)

/-- ASL zp (R171, R113). -/
def execAslZp (b : Byte) (s : State) : Host.Outcome State Fault Refusal :=
  .next (s.asl (.mem (.zp b)))

/-- ASL zpx (R171, R114). -/
def execAslZpx (b : Byte) (s : State) : Host.Outcome State Fault Refusal :=
  .next (s.asl (.mem (.zpx b)))

/-- ASL abs (R171, R116). -/
def execAslAbs (w : Word) (s : State) : Host.Outcome State Fault Refusal :=
  .next (s.asl (.mem (.abs w)))

/-- ASL absx (R171, R117). -/
def execAslAbsx (w : Word) (s : State) : Host.Outcome State Fault Refusal :=
  .next (s.asl (.mem (.absx w)))

/-- LSR acc (R172, R111). -/
def execLsrAcc (s : State) : Host.Outcome State Fault Refusal :=
  .next (s.lsr .acc)

/-- LSR zp (R172, R113). -/
def execLsrZp (b : Byte) (s : State) : Host.Outcome State Fault Refusal :=
  .next (s.lsr (.mem (.zp b)))

/-- LSR zpx (R172, R114). -/
def execLsrZpx (b : Byte) (s : State) : Host.Outcome State Fault Refusal :=
  .next (s.lsr (.mem (.zpx b)))

/-- LSR abs (R172, R116). -/
def execLsrAbs (w : Word) (s : State) : Host.Outcome State Fault Refusal :=
  .next (s.lsr (.mem (.abs w)))

/-- LSR absx (R172, R117). -/
def execLsrAbsx (w : Word) (s : State) : Host.Outcome State Fault Refusal :=
  .next (s.lsr (.mem (.absx w)))

/-- ROL acc (R173, R111). -/
def execRolAcc (s : State) : Host.Outcome State Fault Refusal :=
  .next (s.rol .acc)

/-- ROL zp (R173, R113). -/
def execRolZp (b : Byte) (s : State) : Host.Outcome State Fault Refusal :=
  .next (s.rol (.mem (.zp b)))

/-- ROL zpx (R173, R114). -/
def execRolZpx (b : Byte) (s : State) : Host.Outcome State Fault Refusal :=
  .next (s.rol (.mem (.zpx b)))

/-- ROL abs (R173, R116). -/
def execRolAbs (w : Word) (s : State) : Host.Outcome State Fault Refusal :=
  .next (s.rol (.mem (.abs w)))

/-- ROL absx (R173, R117). -/
def execRolAbsx (w : Word) (s : State) : Host.Outcome State Fault Refusal :=
  .next (s.rol (.mem (.absx w)))

/-- ROR acc (R174, R111). -/
def execRorAcc (s : State) : Host.Outcome State Fault Refusal :=
  .next (s.ror .acc)

/-- ROR zp (R174, R113). -/
def execRorZp (b : Byte) (s : State) : Host.Outcome State Fault Refusal :=
  .next (s.ror (.mem (.zp b)))

/-- ROR zpx (R174, R114). -/
def execRorZpx (b : Byte) (s : State) : Host.Outcome State Fault Refusal :=
  .next (s.ror (.mem (.zpx b)))

/-- ROR abs (R174, R116). -/
def execRorAbs (w : Word) (s : State) : Host.Outcome State Fault Refusal :=
  .next (s.ror (.mem (.abs w)))

/-- ROR absx (R174, R117). -/
def execRorAbsx (w : Word) (s : State) : Host.Outcome State Fault Refusal :=
  .next (s.ror (.mem (.absx w)))

end Sys2Proof.Machine
end

