-- ==== Sys2Proof/Machine/StackControl.lean ====
section
/-! DEFINITION. Stack and control (48_stack_control.md R203 to R211): PHA PLA PHP PLP JSR RTS RTI BRK JMP. -/

namespace Sys2Proof.Machine

/-- PHA imp (R203): push A. -/
def execPha (s : State) : Host.Outcome State Fault Refusal :=
  .next ((s.push s.a).setExtra 0)

/-- PLA imp (R204): pull A, with Z and N from the pulled byte. -/
def execPla (s : State) : Host.Outcome State Fault Refusal :=
  .next (((s.afterPop.setA s.popByte).setZN s.popByte).setExtra 0)

/-- PHP imp (R205): push `PS OR 0x10`; PS is unchanged. -/
def execPhp (s : State) : Host.Outcome State Fault Refusal :=
  .next ((s.push (pushedStatus s.ps)).setExtra 0)

/-- PLP imp (R206): pull all eight bits of PS. -/
def execPlp (s : State) : Host.Outcome State Fault Refusal :=
  .next ((s.afterPop.setPS s.popByte).setExtra 0)

/-- JSR abs (R207, R116): both operand bytes have been fetched, so PC - 1 is the address of the last byte of the JSR; it is pushed and PC is loaded. -/
def execJsr (target : Word) (s : State) : Host.Outcome State Fault Refusal :=
  .next (((s.pushWord (s.pc - 1)).setPC target).setExtra 0)

/-- RTS imp (R208): pop a 16-bit value and add 1. -/
def execRts (s : State) : Host.Outcome State Fault Refusal :=
  .next ((s.afterPopWord.setPC (s.popWord + 1)).setExtra 0)

/-- RTI imp (R209): the return from the trap. -/
def execRti (s : State) : Host.Outcome State Fault Refusal :=
  .next (s.returnFromTrap.setExtra 0)

/-- BRK imp (R210): the trap entry from the BRK at `PC - 1` (one byte has been fetched), then the event and the halt, always. -/
def execBrk (s : State) : Host.Outcome State Fault Refusal :=
  .next ((((s.enterTrap (s.pc - 1)).emit (.brkHalt (s.pc - 1))).raiseHalt .brk).setExtra 0)

/-- JMP abs (R211, R116): jump to the operand. -/
def execJmpAbs (target : Word) (s : State) : Host.Outcome State Fault Refusal :=
  .next ((s.setPC target).setExtra 0)

/-- JMP ind (R211, R119): jump through the pointer. -/
def execJmpInd (p : Word) (s : State) : Host.Outcome State Fault Refusal :=
  .next (((s.afterIndirect p).setPC (s.indirectTarget p)).setExtra 0)

end Sys2Proof.Machine
end

