-- ==== Sys2Proof/Machine/Fetch.lean ====
section
/-! DEFINITION. The Fetch and Decode states of the step and its close (40_engine_and_addressing.md R101, R102, R104), and
where the host's `withFetchWord` places an instruction. The step itself (Machine/Step.lean) only calls these. -/

namespace Sys2Proof.Machine

/-- What the Fetch and Decode states of a step come to. -/
inductive FetchResult where
  /-- The step is no behaviour of the core. -/
  | refuse (r : Refusal)
  /-- The core is halted: nothing changes (R109). -/
  | stay
  /-- An unmapped opcode: the step ends in this state (R101). -/
  | illegal (t : State)
  /-- Execute `i` in the state `t`, with PC past the instruction and AT = ACCESS_OF(op); `row` is the opcode's. -/
  | run (i : Instr) (row : OpRow) (t : State)
  deriving DecidableEq, Repr

/-- The core at the opcode fetch: AT is FETCH_ACCESS (R101, R102), and execution has started (R275). -/
def State.openStep (s : State) : State :=
  { s.setAccess s.cfg.fetchAccess with started := true }

/-- The opcode byte the bus answers at PC (R101). -/
def State.opcodeByte (s : State) : Byte :=
  s.openStep.busByte s.pc

/-- The state after the opcode fetch, PC incremented (R101). -/
def State.afterOpcode (s : State) : State :=
  s.openStep.afterFetch

/-- The core at the operand fetches of a mapped opcode: AT is ACCESS_OF(op) (R101, R102). -/
def State.atOperands (s : State) (row : OpRow) : State :=
  s.afterOpcode.setAccess row.access

/-- The operand bytes of a mapped opcode, as the bus answers them (R101, R104). -/
def State.operandBytes (s : State) (row : OpRow) : List Byte :=
  State.fetchBytes (row.mode.length - 1) (s.atOperands row)

/-- The state in which a mapped opcode executes: its operand bytes have been fetched. -/
def State.afterInstruction (s : State) (row : OpRow) : State :=
  State.afterFetches (row.mode.length - 1) (s.atOperands row)

/-- The Fetch and Decode states (R101). -/
def State.fetchPhase (s : State) : FetchResult :=
  if s.ready then
    if s.halted then .stay
    else
      match rowOf s.cfg.ops s.opcodeByte with
      | none => .illegal (s.afterOpcode.stopIllegal s.opcodeByte s.pc)
      | some row =>
        match decode s.cfg.ops (s.opcodeByte :: s.operandBytes row) with
        | .ok (i, _) => .run i row (s.afterInstruction row)
        | .error _ => .refuse .badConfiguration
  else .refuse .notReady

/-- The end of the step of the opcode of `row` after Execute (R101). -/
def finishStep (row : OpRow) : Host.Outcome State Fault Refusal → Host.Outcome State Fault Refusal
  | .next t => .next (t.closeStep row)
  | .fault r => .fault r
  | .refused r => .refused r

/-- The instruction of the host's `nbits` and `w` stored at PC by raw writes, with the core ready and not
halted, so that the next step fetches and runs it (where PC lies in RAM or ROM). -/
def State.placeInstruction (s : State) (nbits w : Nat) : State :=
  { s.pokeBytes s.pc (tableWordBytes nbits w) with
    ready := true
    halted := false
    haltReason := .none }

end Sys2Proof.Machine
end

