-- ==== Sys2Proof/Machine/Step.lean ====
section
/-! DEFINITION. `step()` (40_engine_and_addressing.md R101): one whole instruction, or the stop at an unmapped opcode, or
nothing while halted; and the host's `withFetchWord`. -/

namespace Sys2Proof.Machine

/-- One step of the core (R101, R109). -/
def step (s : State) : Host.Outcome State Fault Refusal :=
  match s.fetchPhase with
  | .refuse r => .refused r
  | .stay => .next s
  | .illegal t => .next t
  | .run i row t => finishStep row (exec i t)

/-- `s` with the instruction of bits `w` (numbered as the opcode table numbers them) where `step` fetches next. -/
def State.withFetchWord (s : State) (nbits w : Nat) : State :=
  s.placeInstruction nbits w

end Sys2Proof.Machine
end

