-- ==== Sys2Proof/Machine/HostMoves.lean ====
section
/-! DEFINITION. The moves of the caller (70_reset_and_hazards.md R270 to R275): power-on, configuration, `poke`, `reset`,
`run`. A move made when R275 does not allow it is refused by name. -/

namespace Sys2Proof.Machine

/-- Power-on (R270, 10_state.md R33): memory zero, not ready, and registers that hold no value. -/
def State.powerOn (c : Config) : State where
  a := Config.powerOnByte 0
  x := Config.powerOnByte 1
  y := Config.powerOnByte 2
  sp := Config.powerOnByte 3
  ps := Config.powerOnByte 4
  pc := Config.powerOnWord
  mem := []
  accessType := Config.noAccess
  budget := 0
  total := 0
  halted := false
  haltReason := .none
  ready := false
  log := []
  cfg := c
  draws := 0
  extra := 0
  started := false

/-- The move "configure" (R275): before the first reset, and only with a well-formed configuration
(20_memory.md R54, 93_implementation_defined.md U9). -/
def configure (c : Config) (s : State) : Host.Outcome State Fault Refusal :=
  if s.ready then .refused .configureAfterReset
  else if c.wellFormed then .next { s with cfg := c }
  else .refused .badConfiguration

/-- The move `register(name, range, read_fn, write_fn)` (R275): one more device, at most 64, before the first
reset; its callbacks are the free bytes of 20_memory.md R50. -/
def registerDevice (d : Device) (s : State) : Host.Outcome State Fault Refusal :=
  configure { s.cfg with devices := s.cfg.devices ++ [d] } s

/-- The move `poke(a, v)` (10_state.md R25, R275): before the first reset, or after a reset and before the
first step; else refused (93_implementation_defined.md U12). -/
def poke (a : Word) (v : Byte) (s : State) : Host.Outcome State Fault Refusal :=
  if s.ready && s.started then .refused .pokeAfterStart
  else .next (s.rawPoke a v)

/-- The loop of `run` (40_engine_and_addressing.md R108), at most `n` steps. -/
def runLoop : Nat → State → Host.Outcome State Fault Refusal
  | 0, s => .next s
  | n + 1, s =>
    if decide (0 < s.budget) && !s.halted then
      match step s with
      | .next t => runLoop n t
      | .fault r => .fault r
      | .refused r => .refused r
    else .next s

/-- The move `run(budget)` (R108): steps while BUDGET is positive and the core is not halted. Every step charges
at least 1 cycle in a well-formed configuration, so `budget` steps are enough to exhaust it. -/
def run (budget : Int) (s : State) : Host.Outcome State Fault Refusal :=
  if s.ready then runLoop budget.toNat { s with budget := budget } else .refused .notReady

end Sys2Proof.Machine
end

