-- ==== Sys2Proof/Safety.lean ====
section
/-! DEFINITION. The terms statements use: what PS is after an instruction, where one byte was stored, what an event says of
a device, and the invariant of the states between two steps. -/

namespace Sys2Proof.Machine

/-- PS after, from PS before: each listed flag has the value listed, every other flag is as before. As the eight
flags are the whole of PS (10_state.md R14), this fixes PS. -/
def FlagsAfter (old new : Byte) (changes : List (Flag × Bool)) : Prop :=
  ∀ f, flagOf new f = (changes.lookup f).getD (flagOf old f)

/-- From `s` to `t` one byte `v` was handed to the bus at `addr`: it is stored where the address is RAM, and every
other byte of memory reads as before (20_memory.md R45). -/
def StoresOneByte (s t : State) (addr : Word) (v : Byte) : Prop :=
  t.mem.read addr.toNat = (if regionOf s.cfg addr = .ram then v else s.mem.read addr.toNat)
    ∧ ∀ b : Word, b ≠ addr → t.mem.read b.toNat = s.mem.read b.toNat

/-- An event that records a device call (10_state.md R31). -/
def Event.isDeviceCall : Event → Bool
  | .deviceRead _ _ _ => true
  | .deviceWrite _ _ _ => true
  | _ => false

/-- The invariant of the states between two steps: memory is canonical (10_state.md R24), AT is NONE (R102), no
penalty is pending (R106), the halt flag and reason agree (R29) and the configuration is well formed
(20_memory.md R54). -/
def State.Inv (s : State) : Prop :=
  s.mem.wf = true ∧ s.accessType = Config.noAccess ∧ s.extra = 0
    ∧ (s.halted = false ↔ s.haltReason = .none) ∧ s.cfg.wellFormed = true

/-- The core may take a step that is a behaviour of the core (40_engine_and_addressing.md R109). -/
def State.Running (s : State) : Prop :=
  s.ready = true ∧ s.halted = false

/-- The opcode byte at PC is mapped, with row `row`, and with its operand bytes decodes to `i` (R101). -/
def State.Fetches (s : State) (row : OpRow) (i : Instr) : Prop :=
  rowOf s.cfg.ops s.opcodeByte = some row
    ∧ decode s.cfg.ops (s.opcodeByte :: s.operandBytes row) = .ok (i, [])

/-! ### Tables of the rules, in the spec's arithmetic -/

/-- Z and N of a value, as `SetZN` sets them (10_state.md R17). -/
def znFlags (v : Nat) : List (Flag × Bool) :=
  [(.Z, decide (v = 0)), (.N, decide (128 ≤ v))]

/-- The register a store instruction stores (41_load_store.md R134 to R136). -/
def storedRegister (s : State) : Mnemonic → Option Byte
  | .STA => some s.a
  | .STX => some s.x
  | .STY => some s.y
  | _ => none

/-- The register a compare instruction compares (44_compare.md R161 to R163). -/
def comparedRegister (s : State) : Mnemonic → Option Byte
  | .CMP => some s.a
  | .CPX => some s.x
  | .CPY => some s.y
  | _ => none

/-- The new A of a logical instruction (43_logical.md R151 to R153). -/
def logicalValue (a m : Byte) : Mnemonic → Option Byte
  | .AND => some (a &&& m)
  | .ORA => some (a ||| m)
  | .EOR => some (a ^^^ m)
  | _ => none

/-- The new value and new carry of a shift or rotate of `v` with old carry `c`, as numbers (45_shift_rotate.md
R171 to R174: a 9-bit rotation for ROL and ROR). -/
def shiftedValue (v c : Nat) : Mnemonic → Option (Nat × Nat)
  | .ASL => some (2 * v % 256, v / 128)
  | .LSR => some (v / 2, v % 2)
  | .ROL => some ((2 * v + c) % 256, v / 128)
  | .ROR => some (v / 2 + 128 * c, v % 2)
  | _ => none

/-- When a branch is taken (47_branch.md R191 to R198). -/
def branchTaken (ps : Byte) : Mnemonic → Option Bool
  | .BCC => some (!flagOf ps .C)
  | .BCS => some (flagOf ps .C)
  | .BEQ => some (flagOf ps .Z)
  | .BNE => some (!flagOf ps .Z)
  | .BMI => some (flagOf ps .N)
  | .BPL => some (!flagOf ps .N)
  | .BVC => some (!flagOf ps .V)
  | .BVS => some (flagOf ps .V)
  | _ => none

/-- The flag a flag instruction writes, and the value (49_flags_nop_transfers.md R221 to R227). -/
def flagWritten : Mnemonic → Option (Flag × Bool)
  | .CLC => some (.C, false)
  | .SEC => some (.C, true)
  | .CLD => some (.D, false)
  | .SED => some (.D, true)
  | .CLI => some (.I, false)
  | .SEI => some (.I, true)
  | .CLV => some (.V, false)
  | _ => none

/-- The flags an instruction may change (10_state.md R18's table, read by instruction). -/
def flagsWritten : Mnemonic → List Flag
  | .LDA | .LDX | .LDY | .PLA | .TAX | .TAY | .TXA | .TYA | .TSX | .AND | .ORA | .EOR
  | .INC | .DEC | .INX | .INY | .DEX | .DEY => [.Z, .N]
  | .ADC | .SBC => [.C, .Z, .V, .N]
  | .BIT => [.Z, .V, .N]
  | .CMP | .CPX | .CPY | .ASL | .LSR | .ROL | .ROR => [.C, .Z, .N]
  | .CLC | .SEC => [.C]
  | .CLD | .SED => [.D]
  | .CLI | .SEI | .BRK => [.I]
  | .CLV => [.V]
  | .PLP | .RTI => [.C, .Z, .I, .D, .B, .U, .V, .N]
  | .STA | .STX | .STY | .BCC | .BCS | .BEQ | .BNE | .BMI | .BPL | .BVC | .BVS
  | .PHA | .PHP | .JSR | .RTS | .JMP | .NOP | .TXS => []

/-- An instruction may write A (10_state.md, the access summary of R10 to R12). -/
def mayWriteA (i : Instr) : Bool :=
  [Mnemonic.LDA, .PLA, .TXA, .TYA, .ADC, .SBC, .AND, .ORA, .EOR].contains i.mnemonic || i.operand == .acc

/-- An instruction may write X. -/
def mayWriteX (i : Instr) : Bool :=
  [Mnemonic.LDX, .TAX, .TSX, .INX, .DEX].contains i.mnemonic

/-- An instruction may write Y. -/
def mayWriteY (i : Instr) : Bool :=
  [Mnemonic.LDY, .TAY, .INY, .DEY].contains i.mnemonic

/-- An instruction may write SP: every push and pop, and TXS. -/
def mayWriteSP (i : Instr) : Bool :=
  [Mnemonic.PHA, .PLA, .PHP, .PLP, .JSR, .RTS, .RTI, .BRK, .TXS].contains i.mnemonic

/-- An instruction may write PC other than by being fetched (10_state.md R13). -/
def mayWritePC (i : Instr) : Bool :=
  [Mnemonic.BCC, .BCS, .BEQ, .BNE, .BMI, .BPL, .BVC, .BVS, .JMP, .JSR, .RTS, .RTI, .BRK].contains i.mnemonic

/-- An instruction may write memory: stores, read-modify-write on a cell, pushes. -/
def mayWriteMem (i : Instr) : Bool :=
  [Mnemonic.STA, .STX, .STY, .INC, .DEC, .PHA, .PHP, .JSR, .BRK].contains i.mnemonic
    || ([Mnemonic.ASL, .LSR, .ROL, .ROR].contains i.mnemonic && i.operand != .acc)

/-- The 105 byte values outside the default OPMAP (30_encoding.md R88). -/
def illegalBytes : List Byte :=
  [0x02, 0x03, 0x04, 0x07, 0x0B, 0x0C, 0x0F, 0x12, 0x13, 0x14, 0x17, 0x1A, 0x1B, 0x1C, 0x1F, 0x22, 0x23, 0x27,
   0x2B, 0x2F, 0x32, 0x33, 0x34, 0x37, 0x3A, 0x3B, 0x3C, 0x3F, 0x42, 0x43, 0x44, 0x47, 0x4B, 0x4F, 0x52, 0x53]
    ++ [0x54, 0x57, 0x5A, 0x5B, 0x5C, 0x5F, 0x62, 0x63, 0x64, 0x67, 0x6B, 0x6F, 0x72, 0x73, 0x74, 0x77, 0x7A, 0x7B,
        0x7C, 0x7F, 0x80, 0x82, 0x83, 0x87, 0x89, 0x8B, 0x8F, 0x92, 0x93, 0x97, 0x9B, 0x9C, 0x9E, 0x9F, 0xA3]
    ++ [0xA7, 0xAB, 0xAF, 0xB2, 0xB3, 0xB7, 0xBB, 0xBF, 0xC2, 0xC3, 0xC7, 0xCB, 0xCF, 0xD2, 0xD3, 0xD4, 0xD7, 0xDA,
        0xDB, 0xDC, 0xDF, 0xE2, 0xE3, 0xE7, 0xEB, 0xEF, 0xF2, 0xF3, 0xF4, 0xF7, 0xFA, 0xFB, 0xFC, 0xFF]

end Sys2Proof.Machine
end

