-- ==== Sys2Proof/Certificates/Slice0/Obligations.lean ====
section
/-! DEFINITION. The statements for the provers, one definition each, over every state and operand unless it says
otherwise. `exec i s` is Execute with PC already past the instruction and AT already ACCESS_OF(op)
(40_engine_and_addressing.md R101); `step` adds the fetch and the close. -/

open Sys2Proof Sys2Proof.Machine

/-- The thirteen example encodings decode to the instructions they stand for (30_encoding.md section 6, table of
formats). -/
def Obligations.DecodeOfTheAssemblerExamples : Prop :=
  decode Config.defaultOps [0x18] = .ok (.clc, [])
    ∧ decode Config.defaultOps [0x0A] = .ok (.aslAcc, [])
    ∧ decode Config.defaultOps [0xA9, 0x10] = .ok (.ldaImm 0x10, [])
    ∧ decode Config.defaultOps [0xA5, 0x10] = .ok (.ldaZp 0x10, [])
    ∧ decode Config.defaultOps [0xB5, 0x10] = .ok (.ldaZpx 0x10, [])
    ∧ decode Config.defaultOps [0xB6, 0x10] = .ok (.ldxZpy 0x10, [])
    ∧ decode Config.defaultOps [0x20, 0x42, 0x42] = .ok (.jsr 0x4242, [])
    ∧ decode Config.defaultOps [0xBD, 0xF0, 0x12] = .ok (.ldaAbsx 0x12F0, [])
    ∧ decode Config.defaultOps [0xB9, 0xF0, 0x12] = .ok (.ldaAbsy 0x12F0, [])
    ∧ decode Config.defaultOps [0x6C, 0xFF, 0x30] = .ok (.jmpInd 0x30FF, [])
    ∧ decode Config.defaultOps [0xA1, 0x20] = .ok (.ldaIndx 0x20, [])
    ∧ decode Config.defaultOps [0xB1, 0x20] = .ok (.ldaIndy 0x20, [])
    ∧ decode Config.defaultOps [0xD0, 0xF9] = .ok (.bne 0xF9, [])

/-- Decoding an encoded instruction gives it back, with every operand (30_encoding.md sections 1 to 3). -/
def Obligations.DecodeOfEncode : Prop :=
  ∀ (i : Instr) (rest : List Byte), decode Config.defaultOps (encode i ++ rest) = .ok (i, rest)

/-- Bytes that decode are the encoding of what they decode to (30_encoding.md sections 1 to 3). -/
def Obligations.EncodeOfDecode : Prop :=
  ∀ (bs rest : List Byte) (i : Instr),
    decode Config.defaultOps bs = .ok (i, rest) → bs = encode i ++ rest ∧ i.wellFormed = true

/-- Exactly the 105 listed byte values are illegal opcodes (30_encoding.md section 4). -/
def Obligations.IllegalBytesAreRejectedByName : Prop :=
  ∀ (op : Byte) (bs : List Byte),
    decode Config.defaultOps (op :: bs) = .error (.illegalOpcode op) ↔ op ∈ illegalBytes

/-- A step is Execute of the decoded instruction, then the close of the step (40_engine_and_addressing.md section
1). `draws` (log entry 1) and `started` (log entry 4) are the model's own fields. That Execute starts with PC
past the instruction, all its operand bytes fetched, is this model's choice (log entry 12); the spec lets the
handler fetch them. -/
def Obligations.StepRunsTheDecodedInstruction : Prop :=
  ∀ (s : State) (row : OpRow) (i : Instr), s.Running → s.Fetches row i →
    step s = finishStep row (exec i (s.afterInstruction row))
      ∧ s.afterInstruction row
        = { s with
            pc := s.pc + BitVec.ofNat 16 row.mode.length
            accessType := row.access
            log := (s.afterInstruction row).log
            draws := (s.afterInstruction row).draws
            started := true }

/-- A step runs the instruction whose encoding stands in memory at PC (40_engine_and_addressing.md section 1;
20_memory.md sections 1 and 4). `started` (log entry 4) is the model's own field. That Execute starts with PC
past the instruction, all its operand bytes fetched, is this model's choice (log entry 12); the spec lets the
handler fetch them. -/
def Obligations.StepRunsTheInstructionInMemory : Prop :=
  ∀ (s : State) (i : Instr) (row : OpRow), s.Running → s.cfg.ops = Config.defaultOps →
    rowOf Config.defaultOps i.opcode = some row →
    (∀ (k : Nat) (v : Byte), (encode i)[k]? = some v →
      regionOf s.cfg (s.pc + BitVec.ofNat 16 k) ≠ .mmio
        ∧ s.mem.read (s.pc + BitVec.ofNat 16 k).toNat = v) →
    step s
      = finishStep row
          (exec i
            { s with
              pc := s.pc + BitVec.ofNat 16 i.mode.length
              accessType := row.access
              started := true })

/-- An unmapped opcode halts the core with nothing else done (R242). `draws` (log entry 1) and `started` (log entry
4) are the model's own fields. -/
def Obligations.UnmappedOpcodeHalts : Prop :=
  (∀ s : State, s.Running → rowOf s.cfg.ops s.opcodeByte = none →
    ∃ t, step s = .next t
      ∧ t = { s with
            pc := s.pc + 1
            accessType := 0
            budget := s.budget - 1
            total := s.total + 1
            halted := true
            haltReason := .illegalOpcode s.opcodeByte
            log := s.afterOpcode.log ++ [.illegalOpcode s.opcodeByte s.pc]
            draws := t.draws
            started := t.started })
  ∧ (∀ s : State, s.Running → s.cfg.fetchAccess = 0b011 → s.cfg.ops = Config.defaultOps →
      regionOf s.cfg s.pc = .mmio →
      ∃ t, step s = .next t ∧ t.halted = true ∧ t.haltReason = .illegalOpcode 0xFF ∧ t.pc = s.pc + 1
        ∧ t.log = s.log ++ [.mmioPermissionDenied .read s.pc, .illegalOpcode 0xFF s.pc])

/-- A step before the first reset is refused; a step while halted changes nothing (R109). -/
def Obligations.StepsThatAreNotTaken : Prop :=
  ∀ s : State, (s.ready = false → step s = .refused .notReady)
    ∧ (s.ready = true → s.halted = true → step s = .next s)

/-- A step charges base plus penalty once, at its end (40_engine_and_addressing.md section 1;
70_reset_and_hazards.md section 5). `extra` (log entry 3) is the model's own field. The shape of the penalties
in a row of CYCLES is this model's choice (log entry 2). -/
def Obligations.StepChargesOnce : Prop :=
  (∀ (s : State) (n : Nat), s.charge n = { s with budget := s.budget - (n : Int), total := s.total + n })
  ∧ (∀ (s u : State) (row : OpRow) (i : Instr), s.Running → s.Fetches row i →
      exec i (s.afterInstruction row) = .next u →
      ∃ t, step s = .next t
        ∧ t = { u with
              accessType := 0
              extra := t.extra
              budget := s.budget - ((row.base + penaltyCycles row.penalty u.extra : Nat) : Int)
              total := s.total + (row.base + penaltyCycles row.penalty u.extra) }
        ∧ (s.cfg.ops = Config.defaultOps → penaltyCycles row.penalty u.extra = u.extra))
  ∧ (∀ s t : State, s.Running → rowOf s.cfg.ops s.opcodeByte = none → step s = .next t →
      t.budget = s.budget - 1 ∧ t.total = s.total + 1)

/-- No step faults, and every step of a ready core answers a next state (60_exceptions.md sections 2 and 3). What a
well-formed opcode table is (each row names an existing form, no opcode twice, base cost at least 1) is this
model's choice (log entry 13), and that a device always answers is log entry 9. -/
def Obligations.StepAlwaysCompletes : Prop :=
  (∀ (s : State) (r : Fault), step s ≠ .fault r)
  ∧ (∀ s : State, s.ready = true → s.cfg.wellFormed = true → ∃ t, step s = .next t)

/-- Every step keeps the invariant of the states between steps (10_state.md sections 4 and 5;
40_engine_and_addressing.md section 1). That memory is a canonical list is this model's choice (log entry 5), as
are the pending penalty `extra` = 0 (log entry 3) and what a well-formed opcode table is (log entry 13). -/
def Obligations.StepKeepsTheInvariant : Prop :=
  ∀ s t : State, s.Inv → step s = .next t → t.Inv

/-- The state after reset meets the invariant (10_state.md section 6). That memory is a canonical list is this
model's choice (log entry 5), as are the pending penalty `extra` = 0 (log entry 3) and what a well-formed opcode
table is (log entry 13). -/
def Obligations.ResetMeetsTheInvariant : Prop :=
  State.reset.Inv

/-- No step changes a byte of MEM at a ROM or MMIO address (20_memory.md section 1). -/
def Obligations.OnlyRamBytesChange : Prop :=
  ∀ (s t : State) (a : Word), step s = .next t → regionOf s.cfg a ≠ .ram →
    t.mem.read a.toNat = s.mem.read a.toNat

/-- A step never changes the configuration or READY and only appends to LOG (10_state.md section 5). -/
def Obligations.StepKeepsConfigurationAndExtendsLog : Prop :=
  ∀ s t : State, step s = .next t →
    t.cfg = s.cfg ∧ t.ready = s.ready ∧ (∃ es, t.log = s.log ++ es) ∧ s.total ≤ t.total

/-- Of the mapped instructions BRK halts, always, and no other does (60_exceptions.md section 2). -/
def Obligations.OnlyBrkRaisesAHalt : Prop :=
  ∀ (i : Instr) (s : State), ∃ t, exec i s = .next t
    ∧ (t.halted, t.haltReason) = (if i.mnemonic = .BRK then (true, .brk) else (s.halted, s.haltReason))

/-- A step whose AccessTypes lack the MMIO bit calls no device (20_memory.md sections 1 and 3; 30_encoding.md
section 5). `draws` (log entry 1) is the model's own field. -/
def Obligations.NoMmioBitNoDeviceCall : Prop :=
  ∀ s t : State, s.cfg.fetchAccess.getLsbD 2 = false →
    (∀ row, rowOf s.cfg.ops s.opcodeByte = some row → row.access.getLsbD 2 = false) →
    step s = .next t →
    t.draws = s.draws ∧ ∃ es, t.log = s.log ++ es ∧ ∀ e ∈ es, Event.isDeviceCall e = false

/-- Every instruction leaves the flags it does not write unchanged (10_state.md section 3). -/
def Obligations.FlagsChangeOnlyByTheirWriters : Prop :=
  ∀ (i : Instr) (s t : State) (f : Flag), exec i s = .next t → f ∉ flagsWritten i.mnemonic →
    flagOf t.ps f = flagOf s.ps f

/-- V can be set to 1 only by ADC, SBC, BIT, PLP and RTI (R19). -/
def Obligations.OverflowIsSetOnlyByFiveInstructions : Prop :=
  ∀ (i : Instr) (s t : State), exec i s = .next t → flagOf s.ps .V = false → flagOf t.ps .V = true →
    i.mnemonic ∈ [Mnemonic.ADC, .SBC, .BIT, .PLP, .RTI]

/-- Every instruction leaves the registers and memory it does not write unchanged (10_state.md sections 1 and 2).
`started` (log entry 4) is the model's own field. -/
def Obligations.RegistersAndMemoryChangeOnlyByTheirWriters : Prop :=
  ∀ (i : Instr) (s t : State), exec i s = .next t →
    (mayWriteA i = false → t.a = s.a) ∧ (mayWriteX i = false → t.x = s.x)
      ∧ (mayWriteY i = false → t.y = s.y) ∧ (mayWriteSP i = false → t.sp = s.sp)
      ∧ (mayWritePC i = false → t.pc = s.pc) ∧ (mayWriteMem i = false → t.mem = s.mem)
      ∧ t.accessType = s.accessType ∧ t.budget = s.budget ∧ t.total = s.total ∧ t.ready = s.ready
      ∧ t.started = s.started ∧ t.cfg = s.cfg

/-- Execute does not depend on BUDGET, TOTAL or LOG (40_engine_and_addressing.md section 1). -/
def Obligations.ExecuteIgnoresCountersAndLog : Prop :=
  ∀ (i : Instr) (s t : State) (b : Int) (n : Nat) (l : List Event), exec i s = .next t →
    exec i { s with budget := b, total := n, log := l }
      = .next { t with budget := b, total := n, log := l ++ t.log.drop s.log.length }

/-- What a bus read answers and logs, by region and permission (R44). `draws` (log entry 1) is the model's own
field. -/
def Obligations.BusReadByRegion : Prop :=
  ∀ (s : State) (a : Word),
    (regionOf s.cfg a ≠ .mmio → s.busByte a = s.mem.read a.toNat ∧ s.afterRead a = s)
    ∧ (regionOf s.cfg a = .mmio → s.accessType.getLsbD 2 = false →
        s.busByte a = 0xFF ∧ s.afterRead a = { s with log := s.log ++ [.mmioPermissionDenied .read a] })
    ∧ (regionOf s.cfg a = .mmio → s.accessType.getLsbD 2 = true →
        (∀ i, firstDevice s.cfg a = some i →
          s.afterRead a
            = { s with
                draws := (s.afterRead a).draws
                log := s.log ++ [.deviceRead i a (s.busByte a)] })
        ∧ (firstDevice s.cfg a = none →
          s.busByte a = 0x00 ∧ s.afterRead a = { s with log := s.log ++ [.mmioUnmatched .read a] }))

/-- What a bus write stores and logs, by region and permission (R45). -/
def Obligations.BusWriteByRegion : Prop :=
  ∀ (s : State) (a : Word) (v : Byte), StoresOneByte s (s.busWrite a v) a v
    ∧ (regionOf s.cfg a = .ram → s.busWrite a v = { s with mem := (s.busWrite a v).mem })
    ∧ (regionOf s.cfg a = .rom → s.busWrite a v = { s with log := s.log ++ [.romWriteIgnored a v] })
    ∧ (regionOf s.cfg a = .mmio → s.accessType.getLsbD 2 = false →
        s.busWrite a v = { s with log := s.log ++ [.mmioPermissionDenied (.write v) a] })
    ∧ (regionOf s.cfg a = .mmio → s.accessType.getLsbD 2 = true →
        (∀ i, firstDevice s.cfg a = some i →
          s.busWrite a v = { s with log := s.log ++ [.deviceWrite i a v] })
        ∧ (firstDevice s.cfg a = none →
          s.busWrite a v = { s with log := s.log ++ [.mmioUnmatched (.write v) a] }))

/-- The device called is the first registered one whose range holds the address (20_memory.md section 1). -/
def Obligations.FirstDeviceIsTheLeastMatch : Prop :=
  ∀ (c : Config) (a : Word) (i : Nat),
    firstDevice c a = some i ↔
      ∃ d, c.devices[i]? = some d ∧ d.lo.toNat ≤ a.toNat ∧ a.toNat ≤ d.hi.toNat
        ∧ ∀ (j : Nat) (e : Device), j < i → c.devices[j]? = some e →
          ¬(e.lo.toNat ≤ a.toNat ∧ a.toNat ≤ e.hi.toNat)

/-- Reset from any state: the values it leaves, and twice is as once (R272). -/
def Obligations.ResetIsRepeatableAndTotal : Prop :=
  ∀ s : State,
    (s.applyReset.a = 0 ∧ s.applyReset.x = 0 ∧ s.applyReset.y = 0 ∧ s.applyReset.sp = 0xFD
      ∧ s.applyReset.ps = 0
      ∧ s.applyReset.pc.toNat = (s.mem.read 0xFFFD).toNat * 256 + (s.mem.read 0xFFFC).toNat
      ∧ s.applyReset.halted = false ∧ s.applyReset.haltReason = .none ∧ s.applyReset.ready = true
      ∧ s.applyReset.accessType = 0 ∧ s.applyReset.mem = s.mem ∧ s.applyReset.budget = s.budget
      ∧ s.applyReset.total = s.total ∧ s.applyReset.log = s.log ∧ s.applyReset.cfg = s.cfg)
    ∧ s.applyReset.applyReset = s.applyReset
    ∧ (s.ready = true → s.halted = true → ∀ t, step s = .next t → t.halted = true)

/-- With nothing loaded, reset then one step executes BRK and halts (R274). -/
def Obligations.EmptyMachineRunsOneBrk : Prop :=
  (State.powerOn Config.default).applyReset = State.reset ∧ State.reset.pc = 0x0000
    ∧ ∃ t, step State.reset = .next t ∧ t.mem.read 0x01FD = 0x00 ∧ t.mem.read 0x01FC = 0x02
      ∧ t.mem.read 0x01FB = 0x10 ∧ t.sp = 0xFA ∧ t.ps = 0x04 ∧ t.pc = 0x0000 ∧ t.halted = true
      ∧ t.haltReason = .brk ∧ t.total = 7 ∧ t.budget = -7

/-- A run ends with the budget exhausted or the core halted (40_engine_and_addressing.md section 1). That run takes
at most `budget` steps of fuel is this model's choice (log entry 14), as is what a well-formed opcode table is,
a base cost of at least 1 included (log entry 13); that a device always answers is log entry 9. -/
def Obligations.RunStopsAtTheBudgetOrAHalt : Prop :=
  ∀ (s : State) (b : Int), s.ready = true → s.cfg.wellFormed = true →
    ∃ t, run b s = .next t ∧ (t.budget ≤ 0 ∨ t.halted = true)
      ∧ t.budget + (t.total : Int) = b + (s.total : Int)

/-- poke writes any byte of MEM before execution starts and is refused after (10_state.md section 4;
70_reset_and_hazards.md section 3). `started` (log entry 4) is the model's own field. -/
def Obligations.PokeIsARawWriteBeforeExecution : Prop :=
  ∀ (s : State) (a : Word) (v : Byte),
    ((s.ready = false ∨ s.started = false) →
      ∃ t, poke a v s = .next t ∧ t = { s with mem := t.mem }
        ∧ ∀ b : Word, t.peek b = if b = a then v else s.peek b)
    ∧ (s.ready = true → s.started = true → poke a v s = .refused .pokeAfterStart)

/-- A configuration is taken before the first reset and only if well formed (20_memory.md section 1;
70_reset_and_hazards.md section 3). -/
def Obligations.ConfigurationComesBeforeTheFirstReset : Prop :=
  ∀ (s : State) (c : Config) (d : Device),
    (s.ready = false → c.wellFormed = true → configure c s = .next { s with cfg := c })
    ∧ (s.ready = false → c.wellFormed = false → configure c s = .refused .badConfiguration)
    ∧ (s.ready = true → configure c s = .refused .configureAfterReset)
    ∧ registerDevice d s = configure { s.cfg with devices := s.cfg.devices ++ [d] } s
    ∧ (64 ≤ s.cfg.devices.length ∨ d.hi.toNat < d.lo.toNat → s.ready = false →
        registerDevice d s = .refused .badConfiguration)

/-- Zero-page and indexed zero-page addresses stay in page 0 (40_engine_and_addressing.md section 2). -/
def Obligations.ZeroPageAddressesWrap : Prop :=
  ∀ (s : State) (b : Byte),
    ((s.ea (.zp b)).toNat = b.toNat ∧ s.crossed (.zp b) = false ∧ s.afterEa (.zp b) = s)
    ∧ ((s.ea (.zpx b)).toNat = (b.toNat + s.x.toNat) % 256 ∧ s.crossed (.zpx b) = false
        ∧ s.afterEa (.zpx b) = s)
    ∧ ((s.ea (.zpy b)).toNat = (b.toNat + s.y.toNat) % 256 ∧ s.crossed (.zpy b) = false
        ∧ s.afterEa (.zpy b) = s)

/-- Absolute and indexed absolute addresses and their page crossing (40_engine_and_addressing.md section 2). -/
def Obligations.AbsoluteAddressesWrap : Prop :=
  ∀ (s : State) (w : Word),
    (s.ea (.abs w) = w ∧ s.crossed (.abs w) = false ∧ s.afterEa (.abs w) = s)
    ∧ ((s.ea (.absx w)).toNat = (w.toNat + s.x.toNat) % 65536
        ∧ s.crossed (.absx w) = decide ((s.ea (.absx w)).toNat / 256 ≠ w.toNat / 256)
        ∧ s.afterEa (.absx w) = s)
    ∧ ((s.ea (.absy w)).toNat = (w.toNat + s.y.toNat) % 65536
        ∧ s.crossed (.absy w) = decide ((s.ea (.absy w)).toNat / 256 ≠ w.toNat / 256)
        ∧ s.afterEa (.absy w) = s)

/-- The indirect forms read a pointer that wraps inside page 0 (40_engine_and_addressing.md section 2). -/
def Obligations.IndirectAddressesReadAPagedPointer : Prop :=
  ∀ (s : State) (b : Byte),
    (∀ z z' : Word, z.toNat = (b.toNat + s.x.toNat) % 256 → z'.toNat = (b.toNat + s.x.toNat + 1) % 256 →
      (s.ea (.indx b)).toNat = ((s.afterRead z).busByte z').toNat * 256 + (s.busByte z).toNat
        ∧ s.crossed (.indx b) = false ∧ s.afterEa (.indx b) = (s.afterRead z).afterRead z')
    ∧ (∀ z z' : Word, z.toNat = b.toNat → z'.toNat = (b.toNat + 1) % 256 →
      ∀ base : Nat, base = ((s.afterRead z).busByte z').toNat * 256 + (s.busByte z).toNat →
      (s.ea (.indy b)).toNat = (base + s.y.toNat) % 65536
        ∧ s.crossed (.indy b) = decide ((s.ea (.indy b)).toNat / 256 ≠ base / 256)
        ∧ s.afterEa (.indy b) = (s.afterRead z).afterRead z')

/-- The value of a read operand and the page-cross penalty (40_engine_and_addressing.md section 2;
70_reset_and_hazards.md section 5). -/
def Obligations.OperandValueAndPenalty : Prop :=
  ∀ s : State,
    (∀ v, s.operandByte (.imm v) = v ∧ s.afterOperand (.imm v) = s ∧ s.readPenalty (.imm v) = 0)
    ∧ (∀ m, s.operandByte (.mem m) = (s.afterEa m).busByte (s.ea m)
        ∧ s.afterOperand (.mem m) = (s.afterEa m).afterRead (s.ea m)
        ∧ s.readPenalty (.mem m)
          = (if (m.mode = .absx ∨ m.mode = .absy ∨ m.mode = .indy) ∧ s.crossed m = true then 1 else 0)
        ∧ (s.afterEa m = s → regionOf s.cfg (s.ea m) ≠ .mmio →
            s.afterOperand (.mem m) = s ∧ s.operandByte (.mem m) = s.mem.read (s.ea m).toNat))

/-- LDA loads A and sets Z and N from the byte (41_load_store.md, LDA). `draws` (log entry 1) and `extra` (log entry
3) are the model's own fields. -/
def Obligations.LdaLoadsItsOperand : Prop :=
  ∀ (i : Instr) (f : ReadForm) (s : State), i.mnemonic = .LDA → i.operand = f.operand →
    ∃ t, exec i s = .next t
      ∧ t = { s with
            a := s.operandByte f
            ps := t.ps
            extra := s.readPenalty f
            log := (s.afterOperand f).log
            draws := (s.afterOperand f).draws }
      ∧ FlagsAfter s.ps t.ps (znFlags (s.operandByte f).toNat)

/-- LDX loads X and sets Z and N from the byte (41_load_store.md, LDX). `draws` (log entry 1) and `extra` (log entry
3) are the model's own fields. -/
def Obligations.LdxLoadsItsOperand : Prop :=
  ∀ (i : Instr) (f : ReadForm) (s : State), i.mnemonic = .LDX → i.operand = f.operand →
    ∃ t, exec i s = .next t
      ∧ t = { s with
            x := s.operandByte f
            ps := t.ps
            extra := s.readPenalty f
            log := (s.afterOperand f).log
            draws := (s.afterOperand f).draws }
      ∧ FlagsAfter s.ps t.ps (znFlags (s.operandByte f).toNat)

/-- LDY loads Y and sets Z and N from the byte (41_load_store.md, LDY). `draws` (log entry 1) and `extra` (log entry
3) are the model's own fields. -/
def Obligations.LdyLoadsItsOperand : Prop :=
  ∀ (i : Instr) (f : ReadForm) (s : State), i.mnemonic = .LDY → i.operand = f.operand →
    ∃ t, exec i s = .next t
      ∧ t = { s with
            y := s.operandByte f
            ps := t.ps
            extra := s.readPenalty f
            log := (s.afterOperand f).log
            draws := (s.afterOperand f).draws }
      ∧ FlagsAfter s.ps t.ps (znFlags (s.operandByte f).toNat)

/-- STA, STX and STY hand one byte to the bus at the effective address (41_load_store.md, STA, STX and STY;
70_reset_and_hazards.md section 5). `draws` (log entry 1) and `extra` (log entry 3) are the model's own fields. -/
def Obligations.StoresWriteOneByte : Prop :=
  ∀ (i : Instr) (m : MemForm) (s : State) (v : Byte), i.operand = .mem m →
    storedRegister s i.mnemonic = some v →
    ∃ t, exec i s = .next t
      ∧ t = { s with
            mem := t.mem
            extra :=
              if s.cfg.storePenalty = .always ∧ i.mnemonic = .STA
                ∧ (m.mode = .absx ∨ m.mode = .absy ∨ m.mode = .indy) then 1 else 0
            log := ((s.afterEa m).busWrite (s.ea m) v).log
            draws := (s.afterEa m).draws }
      ∧ StoresOneByte s t (s.ea m) v

/-- ADC: the sum with carry, the unsigned carry and the signed overflow (42_arithmetic.md, the adder and ADC).
`draws` (log entry 1) and `extra` (log entry 3) are the model's own fields. -/
def Obligations.AdcAddsWithCarry : Prop :=
  ∀ (i : Instr) (f : ReadForm) (s : State) (sum : Nat) (signed : Int),
    i.mnemonic = .ADC → i.operand = f.operand →
    sum = s.a.toNat + (s.operandByte f).toNat + (s.flag .C).toNat →
    signed = s.a.toInt + (s.operandByte f).toInt + ((s.flag .C).toNat : Int) →
    ∃ t, exec i s = .next t
      ∧ t = { s with
            a := BitVec.ofNat 8 sum
            ps := t.ps
            extra := s.readPenalty f
            log := (s.afterOperand f).log
            draws := (s.afterOperand f).draws }
      ∧ FlagsAfter s.ps t.ps
          ([(.C, decide (255 < sum)), (.V, decide (signed < -128 ∨ 127 < signed))] ++ znFlags (sum % 256))

/-- SBC: the difference with borrow, no-borrow in C and the signed overflow (42_arithmetic.md, SBC). `draws` (log
entry 1) and `extra` (log entry 3) are the model's own fields. -/
def Obligations.SbcSubtractsWithBorrow : Prop :=
  ∀ (i : Instr) (f : ReadForm) (s : State) (diff signed : Int),
    i.mnemonic = .SBC → i.operand = f.operand →
    diff = (s.a.toNat : Int) - ((s.operandByte f).toNat : Int) - (1 - ((s.flag .C).toNat : Int)) →
    signed = s.a.toInt - (s.operandByte f).toInt - (1 - ((s.flag .C).toNat : Int)) →
    ∃ t, exec i s = .next t
      ∧ t = { s with
            a := BitVec.ofInt 8 diff
            ps := t.ps
            extra := s.readPenalty f
            log := (s.afterOperand f).log
            draws := (s.afterOperand f).draws }
      ∧ FlagsAfter s.ps t.ps
          ([(.C, decide (0 ≤ diff)), (.V, decide (signed < -128 ∨ 127 < signed))]
            ++ znFlags (diff % 256).toNat)

/-- ADC and SBC compute the same whatever D holds (42_arithmetic.md, decimal mode). -/
def Obligations.DecimalFlagChangesNothing : Prop :=
  ∀ (i : Instr) (s t : State) (d : Bool), i.mnemonic = .ADC ∨ i.mnemonic = .SBC → exec i s = .next t →
    exec i { s with ps := setFlag s.ps .D d } = .next { t with ps := setFlag t.ps .D d }

/-- AND, ORA and EOR combine A with the operand and set Z and N (43_logical.md, AND, ORA and EOR). `draws` (log
entry 1) and `extra` (log entry 3) are the model's own fields. -/
def Obligations.LogicalOperationsWriteA : Prop :=
  ∀ (i : Instr) (f : ReadForm) (s : State) (r : Byte), i.operand = f.operand →
    logicalValue s.a (s.operandByte f) i.mnemonic = some r →
    ∃ t, exec i s = .next t
      ∧ t = { s with
            a := r
            ps := t.ps
            extra := s.readPenalty f
            log := (s.afterOperand f).log
            draws := (s.afterOperand f).draws }
      ∧ FlagsAfter s.ps t.ps (znFlags r.toNat)

/-- BIT: N and V from the operand, Z from the AND, A unchanged (43_logical.md, BIT). `draws` (log entry 1) and
`extra` (log entry 3) are the model's own fields. -/
def Obligations.BitTestsWithoutWritingA : Prop :=
  ∀ (i : Instr) (f : ReadForm) (s : State), i.mnemonic = .BIT → i.operand = f.operand →
    ∃ t, exec i s = .next t
      ∧ t = { s with
            ps := t.ps
            extra := 0
            log := (s.afterOperand f).log
            draws := (s.afterOperand f).draws }
      ∧ FlagsAfter s.ps t.ps
          [(.N, decide ((s.operandByte f).toNat / 128 = 1)),
            (.V, decide ((s.operandByte f).toNat / 64 % 2 = 1)), (.Z, s.a &&& s.operandByte f == 0)]

/-- CMP, CPX and CPY set C, Z and N from the unsigned comparison (44_compare.md, CMP, CPX and CPY). `draws` (log
entry 1) and `extra` (log entry 3) are the model's own fields. -/
def Obligations.ComparesWriteFlagsOnly : Prop :=
  ∀ (i : Instr) (f : ReadForm) (s : State) (r : Byte), i.operand = f.operand →
    comparedRegister s i.mnemonic = some r →
    ∃ t, exec i s = .next t
      ∧ t = { s with
            ps := t.ps
            extra := s.readPenalty f
            log := (s.afterOperand f).log
            draws := (s.afterOperand f).draws }
      ∧ FlagsAfter s.ps t.ps
          [(.C, decide ((s.operandByte f).toNat ≤ r.toNat)), (.Z, decide (r.toNat = (s.operandByte f).toNat)),
            (.N, decide (128 ≤ (r.toNat + 256 - (s.operandByte f).toNat) % 256))]

/-- ASL, LSR, ROL and ROR on A (45_shift_rotate.md). `extra` (log entry 3) is the model's own field. -/
def Obligations.AccumulatorShifts : Prop :=
  ∀ (i : Instr) (s : State) (v c : Nat), i.operand = .acc →
    shiftedValue s.a.toNat (s.flag .C).toNat i.mnemonic = some (v, c) →
    ∃ t, exec i s = .next t ∧ v < 256
      ∧ t = { s with a := BitVec.ofNat 8 v, ps := t.ps, extra := 0 }
      ∧ FlagsAfter s.ps t.ps ((.C, decide (c = 1)) :: znFlags v)

/-- ASL, LSR, ROL and ROR on a memory cell (45_shift_rotate.md). `draws` (log entry 1) and `extra` (log entry 3) are
the model's own fields. -/
def Obligations.MemoryShifts : Prop :=
  ∀ (i : Instr) (m : MemForm) (s : State) (v c : Nat), i.operand = .mem m →
    shiftedValue (s.cellByte m).toNat (s.flag .C).toNat i.mnemonic = some (v, c) →
    ∃ t, exec i s = .next t ∧ v < 256
      ∧ t = { s with
            mem := t.mem
            ps := t.ps
            extra := 0
            log := ((s.afterCell m).busWrite (s.ea m) (BitVec.ofNat 8 v)).log
            draws := (s.afterCell m).draws }
      ∧ StoresOneByte s t (s.ea m) (BitVec.ofNat 8 v)
      ∧ FlagsAfter s.ps t.ps ((.C, decide (c = 1)) :: znFlags v)

/-- INC and DEC on a memory cell wrap modulo 256 and keep C and V (46_inc_dec.md, INC and DEC). `draws` (log entry
1) and `extra` (log entry 3) are the model's own fields. -/
def Obligations.IncrementAndDecrementACell : Prop :=
  ∀ (i : Instr) (m : MemForm) (s : State) (v : Nat), i.operand = .mem m →
    (i.mnemonic = .INC ∧ v = ((s.cellByte m).toNat + 1) % 256
      ∨ i.mnemonic = .DEC ∧ v = ((s.cellByte m).toNat + 255) % 256) →
    ∃ t, exec i s = .next t
      ∧ t = { s with
            mem := t.mem
            ps := t.ps
            extra := 0
            log := ((s.afterCell m).busWrite (s.ea m) (BitVec.ofNat 8 v)).log
            draws := (s.afterCell m).draws }
      ∧ StoresOneByte s t (s.ea m) (BitVec.ofNat 8 v)
      ∧ FlagsAfter s.ps t.ps (znFlags v)

/-- INX, INY, DEX and DEY wrap modulo 256 and set Z and N only (46_inc_dec.md, INX, INY, DEX and DEY). `extra` (log
entry 3) is the model's own field. -/
def Obligations.IncrementAndDecrementIndexRegisters : Prop :=
  ∀ s : State,
    (∃ t, exec .inx s = .next t ∧ t = { s with x := t.x, ps := t.ps, extra := 0 }
      ∧ t.x.toNat = (s.x.toNat + 1) % 256 ∧ FlagsAfter s.ps t.ps (znFlags t.x.toNat))
    ∧ (∃ t, exec .iny s = .next t ∧ t = { s with y := t.y, ps := t.ps, extra := 0 }
      ∧ t.y.toNat = (s.y.toNat + 1) % 256 ∧ FlagsAfter s.ps t.ps (znFlags t.y.toNat))
    ∧ (∃ t, exec .dex s = .next t ∧ t = { s with x := t.x, ps := t.ps, extra := 0 }
      ∧ t.x.toNat = (s.x.toNat + 255) % 256 ∧ FlagsAfter s.ps t.ps (znFlags t.x.toNat))
    ∧ (∃ t, exec .dey s = .next t ∧ t = { s with y := t.y, ps := t.ps, extra := 0 }
      ∧ t.y.toNat = (s.y.toNat + 255) % 256 ∧ FlagsAfter s.ps t.ps (znFlags t.y.toNat))

/-- The eight branches: target, penalty, and nothing else written (47_branch.md). `extra` (log entry 3) is the
model's own field. -/
def Obligations.BranchesGoToTheirTarget : Prop :=
  ∀ (i : Instr) (off : Byte) (s : State) (taken : Bool) (target : Word), i.operand = .rel off →
    branchTaken s.ps i.mnemonic = some taken →
    target = BitVec.ofInt 16 ((s.pc.toNat : Int) + off.toInt) →
    exec i s
      = .next
          { s with
            pc := if taken then target else s.pc
            extra :=
              if taken then (if target.toNat / 256 = s.pc.toNat / 256 then 1 else 2) else 0 }

/-- PHA and PHP push A and PS with B set (48_stack_control.md, the stack primitives, PHA and PHP). `extra` (log
entry 3) is the model's own field. -/
def Obligations.PushInstructions : Prop :=
  ∀ (s : State) (i : Instr) (v : Byte) (cell : Word),
    (i = .pha ∧ v = s.a ∨ i = .php ∧ v = s.ps ||| 0x10) → cell = BitVec.ofNat 16 (256 + s.sp.toNat) →
    ∃ t, exec i s = .next t
      ∧ t = { s with
            mem := t.mem
            sp := s.sp - 1
            extra := 0
            log := (s.busWrite cell v).log }
      ∧ StoresOneByte s t cell v

/-- PLA and PLP pull the byte above SP (48_stack_control.md, the stack primitives, PLA and PLP). `draws` (log entry
1) and `extra` (log entry 3) are the model's own fields. -/
def Obligations.PullInstructions : Prop :=
  ∀ (s : State) (cell : Word), cell = BitVec.ofNat 16 (256 + (s.sp.toNat + 1) % 256) →
    (∃ t, exec .pla s = .next t
      ∧ t = { s with
            a := s.busByte cell
            sp := s.sp + 1
            ps := t.ps
            extra := 0
            log := (s.afterRead cell).log
            draws := (s.afterRead cell).draws }
      ∧ FlagsAfter s.ps t.ps (znFlags (s.busByte cell).toNat))
    ∧ exec .plp s
      = .next
          { s with
            ps := s.busByte cell
            sp := s.sp + 1
            extra := 0
            log := (s.afterRead cell).log
            draws := (s.afterRead cell).draws }

/-- JSR pushes PC minus 1, high byte first, and jumps (48_stack_control.md, JSR). `extra` (log entry 3) is the
model's own field. -/
def Obligations.JsrPushesItsLastByteAddress : Prop :=
  ∀ (s : State) (target ret : Word) (hi lo : Byte), ret = s.pc - 1 →
    hi = BitVec.ofNat 8 (ret.toNat / 256) → lo = BitVec.ofNat 8 (ret.toNat % 256) →
    ∃ t, exec (.jsr target) s = .next t
      ∧ t = { s with
            pc := target
            sp := s.sp - 2
            mem := t.mem
            extra := 0
            log := ((s.push hi).push lo).log }
      ∧ ∀ b : Word,
        t.mem.read b.toNat
          = if regionOf s.cfg b = .ram ∧ b = stackAddr (s.sp - 1) then lo
            else if regionOf s.cfg b = .ram ∧ b = stackAddr s.sp then hi
            else s.mem.read b.toNat

/-- RTS pulls a word, low byte first, and returns to it plus 1 (48_stack_control.md, RTS). `draws` (log entry 1) and
`extra` (log entry 3) are the model's own fields. -/
def Obligations.RtsReturnsPastThePulledAddress : Prop :=
  ∀ s : State, ∃ t, exec .rts s = .next t
    ∧ t = { s with
          pc := t.pc
          sp := s.sp + 2
          extra := 0
          log := s.afterPop.afterPop.log
          draws := s.afterPop.afterPop.draws }
    ∧ t.pc.toNat
      = ((s.afterPop.busByte (stackAddr (s.sp + 2))).toNat * 256
          + (s.busByte (stackAddr (s.sp + 1))).toNat + 1) % 65536

/-- RTI restores all of PS, then PC with nothing added (48_stack_control.md, RTI; 60_exceptions.md section 5).
`draws` (log entry 1) and `extra` (log entry 3) are the model's own fields. -/
def Obligations.RtiRestoresStatusAndPc : Prop :=
  ∀ s : State, ∃ t, exec .rti s = .next t
    ∧ t = { s with
          ps := s.busByte (stackAddr (s.sp + 1))
          pc := t.pc
          sp := s.sp + 3
          extra := 0
          log := s.afterPop.afterPop.afterPop.log
          draws := s.afterPop.afterPop.afterPop.draws }
    ∧ t.pc.toNat
      = (s.afterPop.afterPop.busByte (stackAddr (s.sp + 3))).toNat * 256
          + (s.afterPop.busByte (stackAddr (s.sp + 2))).toNat

/-- BRK pushes its address plus 2 and the status, sets I, takes the vector and halts (48_stack_control.md, BRK;
60_exceptions.md sections 2 and 5). `draws` (log entry 1) and `extra` (log entry 3) are the model's own fields. -/
def Obligations.BrkEntersTheTrapAndHalts : Prop :=
  ∀ (s pushed : State) (ret : Word) (hi lo status : Byte), ret = s.pc - 1 + 2 →
    hi = BitVec.ofNat 8 (ret.toNat / 256) → lo = BitVec.ofNat 8 (ret.toNat % 256) →
    status = s.ps ||| 0x10 → pushed = ((s.push hi).push lo).push status →
    ∃ t, exec .brk s = .next t
      ∧ t = { s with
            pc := t.pc
            sp := s.sp - 3
            ps := t.ps
            mem := t.mem
            extra := 0
            halted := true
            haltReason := .brk
            log := ((pushed.afterRead 0xFFFE).afterRead 0xFFFF).log ++ [.brkHalt (s.pc - 1)]
            draws := ((pushed.afterRead 0xFFFE).afterRead 0xFFFF).draws }
      ∧ FlagsAfter s.ps t.ps [(.I, true)]
      ∧ t.pc.toNat
        = ((pushed.afterRead 0xFFFE).busByte 0xFFFF).toNat * 256 + (pushed.busByte 0xFFFE).toNat
      ∧ ∀ b : Word,
        t.mem.read b.toNat
          = if regionOf s.cfg b = .ram ∧ b = stackAddr (s.sp - 2) then status
            else if regionOf s.cfg b = .ram ∧ b = stackAddr (s.sp - 1) then lo
            else if regionOf s.cfg b = .ram ∧ b = stackAddr s.sp then hi
            else s.mem.read b.toNat

/-- JMP loads PC from its operand or through a pointer that wraps in its page (48_stack_control.md, JMP;
40_engine_and_addressing.md section 2). `draws` (log entry 1) and `extra` (log entry 3) are the model's own
fields. -/
def Obligations.JumpsLoadPc : Prop :=
  (∀ (s : State) (target : Word), exec (.jmpAbs target) s = .next { s with pc := target, extra := 0 })
  ∧ (∀ (s : State) (p p' : Word), p'.toNat = p.toNat / 256 * 256 + (p.toNat + 1) % 256 →
      ∃ t, exec (.jmpInd p) s = .next t
        ∧ t = { s with
              pc := t.pc
              extra := 0
              log := ((s.afterRead p).afterRead p').log
              draws := ((s.afterRead p).afterRead p').draws }
        ∧ t.pc.toNat = ((s.afterRead p).busByte p').toNat * 256 + (s.busByte p).toNat)

/-- CLC SEC CLD SED CLI SEI CLV each write exactly one flag (49_flags_nop_transfers.md section 1). `extra` (log
entry 3) is the model's own field. -/
def Obligations.FlagInstructionsWriteOneFlag : Prop :=
  ∀ (i : Instr) (s : State) (f : Flag) (b : Bool), flagWritten i.mnemonic = some (f, b) →
    ∃ t, exec i s = .next t ∧ t = { s with ps := t.ps, extra := 0 } ∧ FlagsAfter s.ps t.ps [(f, b)]

/-- NOP changes nothing; the six transfers copy one register (49_flags_nop_transfers.md sections 2 and 3). `extra`
(log entry 3) is the model's own field. -/
def Obligations.NopAndTransfers : Prop :=
  ∀ s : State,
    exec .nop s = .next { s with extra := 0 }
    ∧ (∃ t, exec .tax s = .next t ∧ t = { s with x := s.a, ps := t.ps, extra := 0 }
      ∧ FlagsAfter s.ps t.ps (znFlags s.a.toNat))
    ∧ (∃ t, exec .tay s = .next t ∧ t = { s with y := s.a, ps := t.ps, extra := 0 }
      ∧ FlagsAfter s.ps t.ps (znFlags s.a.toNat))
    ∧ (∃ t, exec .txa s = .next t ∧ t = { s with a := s.x, ps := t.ps, extra := 0 }
      ∧ FlagsAfter s.ps t.ps (znFlags s.x.toNat))
    ∧ (∃ t, exec .tya s = .next t ∧ t = { s with a := s.y, ps := t.ps, extra := 0 }
      ∧ FlagsAfter s.ps t.ps (znFlags s.y.toNat))
    ∧ (∃ t, exec .tsx s = .next t ∧ t = { s with x := s.sp, ps := t.ps, extra := 0 }
      ∧ FlagsAfter s.ps t.ps (znFlags s.sp.toNat))
    ∧ exec .txs s = .next { s with sp := s.x, extra := 0 }

/-- RTS after JSR returns to the instruction after the JSR (48_stack_control.md section 3). -/
def Obligations.JsrThenRtsReturns : Prop :=
  ∀ (s t u : State) (target : Word), regionOf s.cfg (stackAddr s.sp) = .ram →
    regionOf s.cfg (stackAddr (s.sp - 1)) = .ram → exec (.jsr target) s = .next t →
    u.mem = t.mem → u.sp = t.sp → u.cfg = t.cfg →
    ∃ w, exec .rts u = .next w ∧ w.pc = s.pc ∧ w.sp = s.sp

/-- PLA after PHA and PLP after PHP restore the byte and SP (48_stack_control.md sections 1 and 2). -/
def Obligations.PushThenPullRoundTrips : Prop :=
  ∀ s t u : State, regionOf s.cfg (stackAddr s.sp) = .ram →
    u.mem = t.mem → u.sp = t.sp → u.cfg = t.cfg →
    (exec .pha s = .next t → ∃ w, exec .pla u = .next w ∧ w.a = s.a ∧ w.sp = s.sp)
    ∧ (exec .php s = .next t →
        ∃ w, exec .plp u = .next w ∧ FlagsAfter s.ps w.ps [(.B, true)] ∧ w.sp = s.sp)

/-- RTI after BRK returns to the BRK's address plus 2 with the status pushed (48_stack_control.md section 4;
60_exceptions.md section 5). -/
def Obligations.BrkThenRtiReturns : Prop :=
  ∀ s t u : State, regionOf s.cfg (stackAddr s.sp) = .ram →
    regionOf s.cfg (stackAddr (s.sp - 1)) = .ram → regionOf s.cfg (stackAddr (s.sp - 2)) = .ram →
    exec .brk s = .next t → u.mem = t.mem → u.sp = t.sp → u.cfg = t.cfg →
    ∃ w, exec .rti u = .next w ∧ w.pc = s.pc - 1 + 2 ∧ w.sp = s.sp ∧ FlagsAfter s.ps w.ps [(.B, true)]
end

