-- ==== Sys2Proof/Laws/Memory.lean ====
section
/-! SUPPORT. The memory array: a read after a write, and every operation keeps the canonical form. -/

namespace Sys2Proof.Machine

theorem Memory.read_erase (m : Memory) (a b : Nat) :
    (Memory.erase m a).read b = if a = b then Memory.unlisted else m.read b := by
  induction m with
  | nil => simp [Memory.erase, Memory.read]
  | cons c m ih =>
    unfold Memory.erase at ih ⊢
    by_cases hc : c.1 = a
    · by_cases hb : a = b <;> simp_all [Memory.read]
    · by_cases hb : c.1 = b
      · simp_all [Memory.read]
        omega
      · simp_all [Memory.read]

theorem Memory.read_insert (m : Memory) (a b : Nat) (v : Byte) (h : ∀ c ∈ m, c.1 ≠ a) :
    (Memory.insert m a v).read b = if a = b then v else m.read b := by
  induction m with
  | nil => simp [Memory.insert, Memory.read]
  | cons c m ih =>
    have hc : c.1 ≠ a := h c (by simp)
    unfold Memory.insert
    split
    · simp [Memory.read]
    · by_cases hb : a = b
      · subst hb
        simp [Memory.read, hc, ih (fun d hd => h d (by simp [hd]))]
      · simp [Memory.read, hb, ih (fun d hd => h d (by simp [hd]))]

theorem Memory.erase_ne (m : Memory) (a : Nat) : ∀ c ∈ Memory.erase m a, c.1 ≠ a := by
  simp [Memory.erase]

/-- A read after a write: the byte written at its address, every other byte as before. -/
theorem Memory.read_write (m : Memory) (a b : Nat) (v : Byte) :
    (Memory.write m a v).read b = if a = b then v else m.read b := by
  unfold Memory.write
  split
  · rename_i h
    subst h
    exact Memory.read_erase m a b
  · rw [Memory.read_insert _ _ _ _ (Memory.erase_ne m a), Memory.read_erase]
    by_cases h : a = b <;> simp [h]

theorem Memory.wfAbove_mono {m : Memory} {lo lo' : Nat} (h : lo' ≤ lo) (hm : Memory.wfAbove lo m = true) :
    Memory.wfAbove lo' m = true := by
  cases m with
  | nil => rfl
  | cons c m =>
    simp [Memory.wfAbove] at hm ⊢
    exact ⟨⟨⟨by omega, hm.1.1.2⟩, hm.1.2⟩, hm.2⟩

theorem Memory.wfAbove_erase (m : Memory) (a lo : Nat) (hm : Memory.wfAbove lo m = true) :
    Memory.wfAbove lo (Memory.erase m a) = true := by
  induction m generalizing lo with
  | nil => rfl
  | cons c m ih =>
    simp [Memory.wfAbove] at hm
    have ih' := ih _ hm.2
    unfold Memory.erase at ih' ⊢
    by_cases hc : c.1 = a
    · simp only [List.filter_cons, hc, bne_self_eq_false]
      exact Memory.wfAbove_mono (by omega) ih'
    · simp [hc, Memory.wfAbove, hm.1.1, hm.1.2, ih']

theorem Memory.wfAbove_insert (m : Memory) (a lo : Nat) (v : Byte) (hv : v ≠ Memory.unlisted)
    (ha : a < 65536) (hlo : lo ≤ a) (hne : ∀ c ∈ m, c.1 ≠ a) (hm : Memory.wfAbove lo m = true) :
    Memory.wfAbove lo (Memory.insert m a v) = true := by
  induction m generalizing lo with
  | nil => simp [Memory.insert, Memory.wfAbove, hv, ha, hlo]
  | cons c m ih =>
    have hc : c.1 ≠ a := hne c (by simp)
    simp [Memory.wfAbove] at hm
    unfold Memory.insert
    split
    · rename_i hlt
      simp [Memory.wfAbove, hv, ha, hlo, hm.1.1.2, hm.1.2, hm.2]
      omega
    · rename_i hlt
      simp [Memory.wfAbove, hm.1.1, hm.1.2]
      exact ih _ (by omega) (fun d hd => hne d (by simp [hd])) hm.2

/-- A write keeps the canonical form. -/
theorem Memory.wf_write (m : Memory) (a : Nat) (v : Byte) (hm : m.wf = true) (ha : a < 65536) :
    (Memory.write m a v).wf = true := by
  unfold Memory.write
  split
  · exact Memory.wfAbove_erase m a 0 hm
  · rename_i hv
    exact Memory.wfAbove_insert _ a 0 v hv ha (by omega) (Memory.erase_ne m a)
      (Memory.wfAbove_erase m a 0 hm)

/-- The memory right after reset is canonical. -/
theorem Memory.wf_reset : State.reset.mem.wf = true := rfl

end Sys2Proof.Machine
end

