-- ==== Sys2Proof/Laws/State.lean ====
section
/-! SUPPORT. One lemma per field per named update of State, each true by rfl. -/

namespace Sys2Proof.Machine

@[simp] theorem State.setA_a (s : State) (v : Byte) : (s.setA v).a = v := rfl
@[simp] theorem State.setA_x (s : State) (v : Byte) : (s.setA v).x = s.x := rfl
@[simp] theorem State.setA_y (s : State) (v : Byte) : (s.setA v).y = s.y := rfl
@[simp] theorem State.setA_sp (s : State) (v : Byte) : (s.setA v).sp = s.sp := rfl
@[simp] theorem State.setA_ps (s : State) (v : Byte) : (s.setA v).ps = s.ps := rfl
@[simp] theorem State.setA_pc (s : State) (v : Byte) : (s.setA v).pc = s.pc := rfl
@[simp] theorem State.setA_mem (s : State) (v : Byte) : (s.setA v).mem = s.mem := rfl
@[simp] theorem State.setA_accessType (s : State) (v : Byte) : (s.setA v).accessType = s.accessType := rfl
@[simp] theorem State.setA_budget (s : State) (v : Byte) : (s.setA v).budget = s.budget := rfl
@[simp] theorem State.setA_total (s : State) (v : Byte) : (s.setA v).total = s.total := rfl
@[simp] theorem State.setA_halted (s : State) (v : Byte) : (s.setA v).halted = s.halted := rfl
@[simp] theorem State.setA_haltReason (s : State) (v : Byte) : (s.setA v).haltReason = s.haltReason := rfl
@[simp] theorem State.setA_ready (s : State) (v : Byte) : (s.setA v).ready = s.ready := rfl
@[simp] theorem State.setA_log (s : State) (v : Byte) : (s.setA v).log = s.log := rfl
@[simp] theorem State.setA_cfg (s : State) (v : Byte) : (s.setA v).cfg = s.cfg := rfl
@[simp] theorem State.setA_draws (s : State) (v : Byte) : (s.setA v).draws = s.draws := rfl
@[simp] theorem State.setA_extra (s : State) (v : Byte) : (s.setA v).extra = s.extra := rfl
@[simp] theorem State.setA_started (s : State) (v : Byte) : (s.setA v).started = s.started := rfl

@[simp] theorem State.setX_a (s : State) (v : Byte) : (s.setX v).a = s.a := rfl
@[simp] theorem State.setX_x (s : State) (v : Byte) : (s.setX v).x = v := rfl
@[simp] theorem State.setX_y (s : State) (v : Byte) : (s.setX v).y = s.y := rfl
@[simp] theorem State.setX_sp (s : State) (v : Byte) : (s.setX v).sp = s.sp := rfl
@[simp] theorem State.setX_ps (s : State) (v : Byte) : (s.setX v).ps = s.ps := rfl
@[simp] theorem State.setX_pc (s : State) (v : Byte) : (s.setX v).pc = s.pc := rfl
@[simp] theorem State.setX_mem (s : State) (v : Byte) : (s.setX v).mem = s.mem := rfl
@[simp] theorem State.setX_accessType (s : State) (v : Byte) : (s.setX v).accessType = s.accessType := rfl
@[simp] theorem State.setX_budget (s : State) (v : Byte) : (s.setX v).budget = s.budget := rfl
@[simp] theorem State.setX_total (s : State) (v : Byte) : (s.setX v).total = s.total := rfl
@[simp] theorem State.setX_halted (s : State) (v : Byte) : (s.setX v).halted = s.halted := rfl
@[simp] theorem State.setX_haltReason (s : State) (v : Byte) : (s.setX v).haltReason = s.haltReason := rfl
@[simp] theorem State.setX_ready (s : State) (v : Byte) : (s.setX v).ready = s.ready := rfl
@[simp] theorem State.setX_log (s : State) (v : Byte) : (s.setX v).log = s.log := rfl
@[simp] theorem State.setX_cfg (s : State) (v : Byte) : (s.setX v).cfg = s.cfg := rfl
@[simp] theorem State.setX_draws (s : State) (v : Byte) : (s.setX v).draws = s.draws := rfl
@[simp] theorem State.setX_extra (s : State) (v : Byte) : (s.setX v).extra = s.extra := rfl
@[simp] theorem State.setX_started (s : State) (v : Byte) : (s.setX v).started = s.started := rfl

@[simp] theorem State.setY_a (s : State) (v : Byte) : (s.setY v).a = s.a := rfl
@[simp] theorem State.setY_x (s : State) (v : Byte) : (s.setY v).x = s.x := rfl
@[simp] theorem State.setY_y (s : State) (v : Byte) : (s.setY v).y = v := rfl
@[simp] theorem State.setY_sp (s : State) (v : Byte) : (s.setY v).sp = s.sp := rfl
@[simp] theorem State.setY_ps (s : State) (v : Byte) : (s.setY v).ps = s.ps := rfl
@[simp] theorem State.setY_pc (s : State) (v : Byte) : (s.setY v).pc = s.pc := rfl
@[simp] theorem State.setY_mem (s : State) (v : Byte) : (s.setY v).mem = s.mem := rfl
@[simp] theorem State.setY_accessType (s : State) (v : Byte) : (s.setY v).accessType = s.accessType := rfl
@[simp] theorem State.setY_budget (s : State) (v : Byte) : (s.setY v).budget = s.budget := rfl
@[simp] theorem State.setY_total (s : State) (v : Byte) : (s.setY v).total = s.total := rfl
@[simp] theorem State.setY_halted (s : State) (v : Byte) : (s.setY v).halted = s.halted := rfl
@[simp] theorem State.setY_haltReason (s : State) (v : Byte) : (s.setY v).haltReason = s.haltReason := rfl
@[simp] theorem State.setY_ready (s : State) (v : Byte) : (s.setY v).ready = s.ready := rfl
@[simp] theorem State.setY_log (s : State) (v : Byte) : (s.setY v).log = s.log := rfl
@[simp] theorem State.setY_cfg (s : State) (v : Byte) : (s.setY v).cfg = s.cfg := rfl
@[simp] theorem State.setY_draws (s : State) (v : Byte) : (s.setY v).draws = s.draws := rfl
@[simp] theorem State.setY_extra (s : State) (v : Byte) : (s.setY v).extra = s.extra := rfl
@[simp] theorem State.setY_started (s : State) (v : Byte) : (s.setY v).started = s.started := rfl

@[simp] theorem State.setSP_a (s : State) (v : Byte) : (s.setSP v).a = s.a := rfl
@[simp] theorem State.setSP_x (s : State) (v : Byte) : (s.setSP v).x = s.x := rfl
@[simp] theorem State.setSP_y (s : State) (v : Byte) : (s.setSP v).y = s.y := rfl
@[simp] theorem State.setSP_sp (s : State) (v : Byte) : (s.setSP v).sp = v := rfl
@[simp] theorem State.setSP_ps (s : State) (v : Byte) : (s.setSP v).ps = s.ps := rfl
@[simp] theorem State.setSP_pc (s : State) (v : Byte) : (s.setSP v).pc = s.pc := rfl
@[simp] theorem State.setSP_mem (s : State) (v : Byte) : (s.setSP v).mem = s.mem := rfl
@[simp] theorem State.setSP_accessType (s : State) (v : Byte) : (s.setSP v).accessType = s.accessType := rfl
@[simp] theorem State.setSP_budget (s : State) (v : Byte) : (s.setSP v).budget = s.budget := rfl
@[simp] theorem State.setSP_total (s : State) (v : Byte) : (s.setSP v).total = s.total := rfl
@[simp] theorem State.setSP_halted (s : State) (v : Byte) : (s.setSP v).halted = s.halted := rfl
@[simp] theorem State.setSP_haltReason (s : State) (v : Byte) : (s.setSP v).haltReason = s.haltReason := rfl
@[simp] theorem State.setSP_ready (s : State) (v : Byte) : (s.setSP v).ready = s.ready := rfl
@[simp] theorem State.setSP_log (s : State) (v : Byte) : (s.setSP v).log = s.log := rfl
@[simp] theorem State.setSP_cfg (s : State) (v : Byte) : (s.setSP v).cfg = s.cfg := rfl
@[simp] theorem State.setSP_draws (s : State) (v : Byte) : (s.setSP v).draws = s.draws := rfl
@[simp] theorem State.setSP_extra (s : State) (v : Byte) : (s.setSP v).extra = s.extra := rfl
@[simp] theorem State.setSP_started (s : State) (v : Byte) : (s.setSP v).started = s.started := rfl

@[simp] theorem State.setPS_a (s : State) (v : Byte) : (s.setPS v).a = s.a := rfl
@[simp] theorem State.setPS_x (s : State) (v : Byte) : (s.setPS v).x = s.x := rfl
@[simp] theorem State.setPS_y (s : State) (v : Byte) : (s.setPS v).y = s.y := rfl
@[simp] theorem State.setPS_sp (s : State) (v : Byte) : (s.setPS v).sp = s.sp := rfl
@[simp] theorem State.setPS_ps (s : State) (v : Byte) : (s.setPS v).ps = v := rfl
@[simp] theorem State.setPS_pc (s : State) (v : Byte) : (s.setPS v).pc = s.pc := rfl
@[simp] theorem State.setPS_mem (s : State) (v : Byte) : (s.setPS v).mem = s.mem := rfl
@[simp] theorem State.setPS_accessType (s : State) (v : Byte) : (s.setPS v).accessType = s.accessType := rfl
@[simp] theorem State.setPS_budget (s : State) (v : Byte) : (s.setPS v).budget = s.budget := rfl
@[simp] theorem State.setPS_total (s : State) (v : Byte) : (s.setPS v).total = s.total := rfl
@[simp] theorem State.setPS_halted (s : State) (v : Byte) : (s.setPS v).halted = s.halted := rfl
@[simp] theorem State.setPS_haltReason (s : State) (v : Byte) : (s.setPS v).haltReason = s.haltReason := rfl
@[simp] theorem State.setPS_ready (s : State) (v : Byte) : (s.setPS v).ready = s.ready := rfl
@[simp] theorem State.setPS_log (s : State) (v : Byte) : (s.setPS v).log = s.log := rfl
@[simp] theorem State.setPS_cfg (s : State) (v : Byte) : (s.setPS v).cfg = s.cfg := rfl
@[simp] theorem State.setPS_draws (s : State) (v : Byte) : (s.setPS v).draws = s.draws := rfl
@[simp] theorem State.setPS_extra (s : State) (v : Byte) : (s.setPS v).extra = s.extra := rfl
@[simp] theorem State.setPS_started (s : State) (v : Byte) : (s.setPS v).started = s.started := rfl

@[simp] theorem State.setPC_a (s : State) (w : Word) : (s.setPC w).a = s.a := rfl
@[simp] theorem State.setPC_x (s : State) (w : Word) : (s.setPC w).x = s.x := rfl
@[simp] theorem State.setPC_y (s : State) (w : Word) : (s.setPC w).y = s.y := rfl
@[simp] theorem State.setPC_sp (s : State) (w : Word) : (s.setPC w).sp = s.sp := rfl
@[simp] theorem State.setPC_ps (s : State) (w : Word) : (s.setPC w).ps = s.ps := rfl
@[simp] theorem State.setPC_pc (s : State) (w : Word) : (s.setPC w).pc = w := rfl
@[simp] theorem State.setPC_mem (s : State) (w : Word) : (s.setPC w).mem = s.mem := rfl
@[simp] theorem State.setPC_accessType (s : State) (w : Word) : (s.setPC w).accessType = s.accessType := rfl
@[simp] theorem State.setPC_budget (s : State) (w : Word) : (s.setPC w).budget = s.budget := rfl
@[simp] theorem State.setPC_total (s : State) (w : Word) : (s.setPC w).total = s.total := rfl
@[simp] theorem State.setPC_halted (s : State) (w : Word) : (s.setPC w).halted = s.halted := rfl
@[simp] theorem State.setPC_haltReason (s : State) (w : Word) : (s.setPC w).haltReason = s.haltReason := rfl
@[simp] theorem State.setPC_ready (s : State) (w : Word) : (s.setPC w).ready = s.ready := rfl
@[simp] theorem State.setPC_log (s : State) (w : Word) : (s.setPC w).log = s.log := rfl
@[simp] theorem State.setPC_cfg (s : State) (w : Word) : (s.setPC w).cfg = s.cfg := rfl
@[simp] theorem State.setPC_draws (s : State) (w : Word) : (s.setPC w).draws = s.draws := rfl
@[simp] theorem State.setPC_extra (s : State) (w : Word) : (s.setPC w).extra = s.extra := rfl
@[simp] theorem State.setPC_started (s : State) (w : Word) : (s.setPC w).started = s.started := rfl

@[simp] theorem State.setAccess_a (s : State) (m : AccessMask) : (s.setAccess m).a = s.a := rfl
@[simp] theorem State.setAccess_x (s : State) (m : AccessMask) : (s.setAccess m).x = s.x := rfl
@[simp] theorem State.setAccess_y (s : State) (m : AccessMask) : (s.setAccess m).y = s.y := rfl
@[simp] theorem State.setAccess_sp (s : State) (m : AccessMask) : (s.setAccess m).sp = s.sp := rfl
@[simp] theorem State.setAccess_ps (s : State) (m : AccessMask) : (s.setAccess m).ps = s.ps := rfl
@[simp] theorem State.setAccess_pc (s : State) (m : AccessMask) : (s.setAccess m).pc = s.pc := rfl
@[simp] theorem State.setAccess_mem (s : State) (m : AccessMask) : (s.setAccess m).mem = s.mem := rfl
@[simp] theorem State.setAccess_accessType (s : State) (m : AccessMask) : (s.setAccess m).accessType = m := rfl
@[simp] theorem State.setAccess_budget (s : State) (m : AccessMask) : (s.setAccess m).budget = s.budget := rfl
@[simp] theorem State.setAccess_total (s : State) (m : AccessMask) : (s.setAccess m).total = s.total := rfl
@[simp] theorem State.setAccess_halted (s : State) (m : AccessMask) : (s.setAccess m).halted = s.halted := rfl
@[simp] theorem State.setAccess_haltReason (s : State) (m : AccessMask) : (s.setAccess m).haltReason = s.haltReason := rfl
@[simp] theorem State.setAccess_ready (s : State) (m : AccessMask) : (s.setAccess m).ready = s.ready := rfl
@[simp] theorem State.setAccess_log (s : State) (m : AccessMask) : (s.setAccess m).log = s.log := rfl
@[simp] theorem State.setAccess_cfg (s : State) (m : AccessMask) : (s.setAccess m).cfg = s.cfg := rfl
@[simp] theorem State.setAccess_draws (s : State) (m : AccessMask) : (s.setAccess m).draws = s.draws := rfl
@[simp] theorem State.setAccess_extra (s : State) (m : AccessMask) : (s.setAccess m).extra = s.extra := rfl
@[simp] theorem State.setAccess_started (s : State) (m : AccessMask) : (s.setAccess m).started = s.started := rfl

@[simp] theorem State.setExtra_a (s : State) (n : Nat) : (s.setExtra n).a = s.a := rfl
@[simp] theorem State.setExtra_x (s : State) (n : Nat) : (s.setExtra n).x = s.x := rfl
@[simp] theorem State.setExtra_y (s : State) (n : Nat) : (s.setExtra n).y = s.y := rfl
@[simp] theorem State.setExtra_sp (s : State) (n : Nat) : (s.setExtra n).sp = s.sp := rfl
@[simp] theorem State.setExtra_ps (s : State) (n : Nat) : (s.setExtra n).ps = s.ps := rfl
@[simp] theorem State.setExtra_pc (s : State) (n : Nat) : (s.setExtra n).pc = s.pc := rfl
@[simp] theorem State.setExtra_mem (s : State) (n : Nat) : (s.setExtra n).mem = s.mem := rfl
@[simp] theorem State.setExtra_accessType (s : State) (n : Nat) : (s.setExtra n).accessType = s.accessType := rfl
@[simp] theorem State.setExtra_budget (s : State) (n : Nat) : (s.setExtra n).budget = s.budget := rfl
@[simp] theorem State.setExtra_total (s : State) (n : Nat) : (s.setExtra n).total = s.total := rfl
@[simp] theorem State.setExtra_halted (s : State) (n : Nat) : (s.setExtra n).halted = s.halted := rfl
@[simp] theorem State.setExtra_haltReason (s : State) (n : Nat) : (s.setExtra n).haltReason = s.haltReason := rfl
@[simp] theorem State.setExtra_ready (s : State) (n : Nat) : (s.setExtra n).ready = s.ready := rfl
@[simp] theorem State.setExtra_log (s : State) (n : Nat) : (s.setExtra n).log = s.log := rfl
@[simp] theorem State.setExtra_cfg (s : State) (n : Nat) : (s.setExtra n).cfg = s.cfg := rfl
@[simp] theorem State.setExtra_draws (s : State) (n : Nat) : (s.setExtra n).draws = s.draws := rfl
@[simp] theorem State.setExtra_extra (s : State) (n : Nat) : (s.setExtra n).extra = n := rfl
@[simp] theorem State.setExtra_started (s : State) (n : Nat) : (s.setExtra n).started = s.started := rfl

@[simp] theorem State.setMem_a (s : State) (a : Word) (v : Byte) : (s.setMem a v).a = s.a := rfl
@[simp] theorem State.setMem_x (s : State) (a : Word) (v : Byte) : (s.setMem a v).x = s.x := rfl
@[simp] theorem State.setMem_y (s : State) (a : Word) (v : Byte) : (s.setMem a v).y = s.y := rfl
@[simp] theorem State.setMem_sp (s : State) (a : Word) (v : Byte) : (s.setMem a v).sp = s.sp := rfl
@[simp] theorem State.setMem_ps (s : State) (a : Word) (v : Byte) : (s.setMem a v).ps = s.ps := rfl
@[simp] theorem State.setMem_pc (s : State) (a : Word) (v : Byte) : (s.setMem a v).pc = s.pc := rfl
@[simp] theorem State.setMem_mem (s : State) (a : Word) (v : Byte) : (s.setMem a v).mem = s.mem.write a.toNat v := rfl
@[simp] theorem State.setMem_accessType (s : State) (a : Word) (v : Byte) : (s.setMem a v).accessType = s.accessType := rfl
@[simp] theorem State.setMem_budget (s : State) (a : Word) (v : Byte) : (s.setMem a v).budget = s.budget := rfl
@[simp] theorem State.setMem_total (s : State) (a : Word) (v : Byte) : (s.setMem a v).total = s.total := rfl
@[simp] theorem State.setMem_halted (s : State) (a : Word) (v : Byte) : (s.setMem a v).halted = s.halted := rfl
@[simp] theorem State.setMem_haltReason (s : State) (a : Word) (v : Byte) : (s.setMem a v).haltReason = s.haltReason := rfl
@[simp] theorem State.setMem_ready (s : State) (a : Word) (v : Byte) : (s.setMem a v).ready = s.ready := rfl
@[simp] theorem State.setMem_log (s : State) (a : Word) (v : Byte) : (s.setMem a v).log = s.log := rfl
@[simp] theorem State.setMem_cfg (s : State) (a : Word) (v : Byte) : (s.setMem a v).cfg = s.cfg := rfl
@[simp] theorem State.setMem_draws (s : State) (a : Word) (v : Byte) : (s.setMem a v).draws = s.draws := rfl
@[simp] theorem State.setMem_extra (s : State) (a : Word) (v : Byte) : (s.setMem a v).extra = s.extra := rfl
@[simp] theorem State.setMem_started (s : State) (a : Word) (v : Byte) : (s.setMem a v).started = s.started := rfl

@[simp] theorem State.emit_a (s : State) (e : Event) : (s.emit e).a = s.a := rfl
@[simp] theorem State.emit_x (s : State) (e : Event) : (s.emit e).x = s.x := rfl
@[simp] theorem State.emit_y (s : State) (e : Event) : (s.emit e).y = s.y := rfl
@[simp] theorem State.emit_sp (s : State) (e : Event) : (s.emit e).sp = s.sp := rfl
@[simp] theorem State.emit_ps (s : State) (e : Event) : (s.emit e).ps = s.ps := rfl
@[simp] theorem State.emit_pc (s : State) (e : Event) : (s.emit e).pc = s.pc := rfl
@[simp] theorem State.emit_mem (s : State) (e : Event) : (s.emit e).mem = s.mem := rfl
@[simp] theorem State.emit_accessType (s : State) (e : Event) : (s.emit e).accessType = s.accessType := rfl
@[simp] theorem State.emit_budget (s : State) (e : Event) : (s.emit e).budget = s.budget := rfl
@[simp] theorem State.emit_total (s : State) (e : Event) : (s.emit e).total = s.total := rfl
@[simp] theorem State.emit_halted (s : State) (e : Event) : (s.emit e).halted = s.halted := rfl
@[simp] theorem State.emit_haltReason (s : State) (e : Event) : (s.emit e).haltReason = s.haltReason := rfl
@[simp] theorem State.emit_ready (s : State) (e : Event) : (s.emit e).ready = s.ready := rfl
@[simp] theorem State.emit_log (s : State) (e : Event) : (s.emit e).log = s.log ++ [e] := rfl
@[simp] theorem State.emit_cfg (s : State) (e : Event) : (s.emit e).cfg = s.cfg := rfl
@[simp] theorem State.emit_draws (s : State) (e : Event) : (s.emit e).draws = s.draws := rfl
@[simp] theorem State.emit_extra (s : State) (e : Event) : (s.emit e).extra = s.extra := rfl
@[simp] theorem State.emit_started (s : State) (e : Event) : (s.emit e).started = s.started := rfl

@[simp] theorem State.drawn_a (s : State) : s.drawn.a = s.a := rfl
@[simp] theorem State.drawn_x (s : State) : s.drawn.x = s.x := rfl
@[simp] theorem State.drawn_y (s : State) : s.drawn.y = s.y := rfl
@[simp] theorem State.drawn_sp (s : State) : s.drawn.sp = s.sp := rfl
@[simp] theorem State.drawn_ps (s : State) : s.drawn.ps = s.ps := rfl
@[simp] theorem State.drawn_pc (s : State) : s.drawn.pc = s.pc := rfl
@[simp] theorem State.drawn_mem (s : State) : s.drawn.mem = s.mem := rfl
@[simp] theorem State.drawn_accessType (s : State) : s.drawn.accessType = s.accessType := rfl
@[simp] theorem State.drawn_budget (s : State) : s.drawn.budget = s.budget := rfl
@[simp] theorem State.drawn_total (s : State) : s.drawn.total = s.total := rfl
@[simp] theorem State.drawn_halted (s : State) : s.drawn.halted = s.halted := rfl
@[simp] theorem State.drawn_haltReason (s : State) : s.drawn.haltReason = s.haltReason := rfl
@[simp] theorem State.drawn_ready (s : State) : s.drawn.ready = s.ready := rfl
@[simp] theorem State.drawn_log (s : State) : s.drawn.log = s.log := rfl
@[simp] theorem State.drawn_cfg (s : State) : s.drawn.cfg = s.cfg := rfl
@[simp] theorem State.drawn_draws (s : State) : s.drawn.draws = s.draws + 1 := rfl
@[simp] theorem State.drawn_extra (s : State) : s.drawn.extra = s.extra := rfl
@[simp] theorem State.drawn_started (s : State) : s.drawn.started = s.started := rfl

@[simp] theorem State.putFlag_a (s : State) (f : Flag) (b : Bool) : (s.putFlag f b).a = s.a := rfl
@[simp] theorem State.putFlag_x (s : State) (f : Flag) (b : Bool) : (s.putFlag f b).x = s.x := rfl
@[simp] theorem State.putFlag_y (s : State) (f : Flag) (b : Bool) : (s.putFlag f b).y = s.y := rfl
@[simp] theorem State.putFlag_sp (s : State) (f : Flag) (b : Bool) : (s.putFlag f b).sp = s.sp := rfl
@[simp] theorem State.putFlag_ps (s : State) (f : Flag) (b : Bool) : (s.putFlag f b).ps = setFlag s.ps f b := rfl
@[simp] theorem State.putFlag_pc (s : State) (f : Flag) (b : Bool) : (s.putFlag f b).pc = s.pc := rfl
@[simp] theorem State.putFlag_mem (s : State) (f : Flag) (b : Bool) : (s.putFlag f b).mem = s.mem := rfl
@[simp] theorem State.putFlag_accessType (s : State) (f : Flag) (b : Bool) : (s.putFlag f b).accessType = s.accessType := rfl
@[simp] theorem State.putFlag_budget (s : State) (f : Flag) (b : Bool) : (s.putFlag f b).budget = s.budget := rfl
@[simp] theorem State.putFlag_total (s : State) (f : Flag) (b : Bool) : (s.putFlag f b).total = s.total := rfl
@[simp] theorem State.putFlag_halted (s : State) (f : Flag) (b : Bool) : (s.putFlag f b).halted = s.halted := rfl
@[simp] theorem State.putFlag_haltReason (s : State) (f : Flag) (b : Bool) : (s.putFlag f b).haltReason = s.haltReason := rfl
@[simp] theorem State.putFlag_ready (s : State) (f : Flag) (b : Bool) : (s.putFlag f b).ready = s.ready := rfl
@[simp] theorem State.putFlag_log (s : State) (f : Flag) (b : Bool) : (s.putFlag f b).log = s.log := rfl
@[simp] theorem State.putFlag_cfg (s : State) (f : Flag) (b : Bool) : (s.putFlag f b).cfg = s.cfg := rfl
@[simp] theorem State.putFlag_draws (s : State) (f : Flag) (b : Bool) : (s.putFlag f b).draws = s.draws := rfl
@[simp] theorem State.putFlag_extra (s : State) (f : Flag) (b : Bool) : (s.putFlag f b).extra = s.extra := rfl
@[simp] theorem State.putFlag_started (s : State) (f : Flag) (b : Bool) : (s.putFlag f b).started = s.started := rfl

@[simp] theorem State.setZN_a (s : State) (v : Byte) : (s.setZN v).a = s.a := rfl
@[simp] theorem State.setZN_x (s : State) (v : Byte) : (s.setZN v).x = s.x := rfl
@[simp] theorem State.setZN_y (s : State) (v : Byte) : (s.setZN v).y = s.y := rfl
@[simp] theorem State.setZN_sp (s : State) (v : Byte) : (s.setZN v).sp = s.sp := rfl
@[simp] theorem State.setZN_ps (s : State) (v : Byte) : (s.setZN v).ps = withZN s.ps v := rfl
@[simp] theorem State.setZN_pc (s : State) (v : Byte) : (s.setZN v).pc = s.pc := rfl
@[simp] theorem State.setZN_mem (s : State) (v : Byte) : (s.setZN v).mem = s.mem := rfl
@[simp] theorem State.setZN_accessType (s : State) (v : Byte) : (s.setZN v).accessType = s.accessType := rfl
@[simp] theorem State.setZN_budget (s : State) (v : Byte) : (s.setZN v).budget = s.budget := rfl
@[simp] theorem State.setZN_total (s : State) (v : Byte) : (s.setZN v).total = s.total := rfl
@[simp] theorem State.setZN_halted (s : State) (v : Byte) : (s.setZN v).halted = s.halted := rfl
@[simp] theorem State.setZN_haltReason (s : State) (v : Byte) : (s.setZN v).haltReason = s.haltReason := rfl
@[simp] theorem State.setZN_ready (s : State) (v : Byte) : (s.setZN v).ready = s.ready := rfl
@[simp] theorem State.setZN_log (s : State) (v : Byte) : (s.setZN v).log = s.log := rfl
@[simp] theorem State.setZN_cfg (s : State) (v : Byte) : (s.setZN v).cfg = s.cfg := rfl
@[simp] theorem State.setZN_draws (s : State) (v : Byte) : (s.setZN v).draws = s.draws := rfl
@[simp] theorem State.setZN_extra (s : State) (v : Byte) : (s.setZN v).extra = s.extra := rfl
@[simp] theorem State.setZN_started (s : State) (v : Byte) : (s.setZN v).started = s.started := rfl

@[simp] theorem State.charge_a (s : State) (n : Nat) : (s.charge n).a = s.a := rfl
@[simp] theorem State.charge_x (s : State) (n : Nat) : (s.charge n).x = s.x := rfl
@[simp] theorem State.charge_y (s : State) (n : Nat) : (s.charge n).y = s.y := rfl
@[simp] theorem State.charge_sp (s : State) (n : Nat) : (s.charge n).sp = s.sp := rfl
@[simp] theorem State.charge_ps (s : State) (n : Nat) : (s.charge n).ps = s.ps := rfl
@[simp] theorem State.charge_pc (s : State) (n : Nat) : (s.charge n).pc = s.pc := rfl
@[simp] theorem State.charge_mem (s : State) (n : Nat) : (s.charge n).mem = s.mem := rfl
@[simp] theorem State.charge_accessType (s : State) (n : Nat) : (s.charge n).accessType = s.accessType := rfl
@[simp] theorem State.charge_budget (s : State) (n : Nat) : (s.charge n).budget = s.budget - (n : Int) := rfl
@[simp] theorem State.charge_total (s : State) (n : Nat) : (s.charge n).total = s.total + n := rfl
@[simp] theorem State.charge_halted (s : State) (n : Nat) : (s.charge n).halted = s.halted := rfl
@[simp] theorem State.charge_haltReason (s : State) (n : Nat) : (s.charge n).haltReason = s.haltReason := rfl
@[simp] theorem State.charge_ready (s : State) (n : Nat) : (s.charge n).ready = s.ready := rfl
@[simp] theorem State.charge_log (s : State) (n : Nat) : (s.charge n).log = s.log := rfl
@[simp] theorem State.charge_cfg (s : State) (n : Nat) : (s.charge n).cfg = s.cfg := rfl
@[simp] theorem State.charge_draws (s : State) (n : Nat) : (s.charge n).draws = s.draws := rfl
@[simp] theorem State.charge_extra (s : State) (n : Nat) : (s.charge n).extra = s.extra := rfl
@[simp] theorem State.charge_started (s : State) (n : Nat) : (s.charge n).started = s.started := rfl

@[simp] theorem State.raiseHalt_a (s : State) (r : HaltReason) : (s.raiseHalt r).a = s.a := rfl
@[simp] theorem State.raiseHalt_x (s : State) (r : HaltReason) : (s.raiseHalt r).x = s.x := rfl
@[simp] theorem State.raiseHalt_y (s : State) (r : HaltReason) : (s.raiseHalt r).y = s.y := rfl
@[simp] theorem State.raiseHalt_sp (s : State) (r : HaltReason) : (s.raiseHalt r).sp = s.sp := rfl
@[simp] theorem State.raiseHalt_ps (s : State) (r : HaltReason) : (s.raiseHalt r).ps = s.ps := rfl
@[simp] theorem State.raiseHalt_pc (s : State) (r : HaltReason) : (s.raiseHalt r).pc = s.pc := rfl
@[simp] theorem State.raiseHalt_mem (s : State) (r : HaltReason) : (s.raiseHalt r).mem = s.mem := rfl
@[simp] theorem State.raiseHalt_accessType (s : State) (r : HaltReason) : (s.raiseHalt r).accessType = s.accessType := rfl
@[simp] theorem State.raiseHalt_budget (s : State) (r : HaltReason) : (s.raiseHalt r).budget = s.budget := rfl
@[simp] theorem State.raiseHalt_total (s : State) (r : HaltReason) : (s.raiseHalt r).total = s.total := rfl
@[simp] theorem State.raiseHalt_halted (s : State) (r : HaltReason) : (s.raiseHalt r).halted = true := rfl
@[simp] theorem State.raiseHalt_haltReason (s : State) (r : HaltReason) : (s.raiseHalt r).haltReason = r := rfl
@[simp] theorem State.raiseHalt_ready (s : State) (r : HaltReason) : (s.raiseHalt r).ready = s.ready := rfl
@[simp] theorem State.raiseHalt_log (s : State) (r : HaltReason) : (s.raiseHalt r).log = s.log := rfl
@[simp] theorem State.raiseHalt_cfg (s : State) (r : HaltReason) : (s.raiseHalt r).cfg = s.cfg := rfl
@[simp] theorem State.raiseHalt_draws (s : State) (r : HaltReason) : (s.raiseHalt r).draws = s.draws := rfl
@[simp] theorem State.raiseHalt_extra (s : State) (r : HaltReason) : (s.raiseHalt r).extra = s.extra := rfl
@[simp] theorem State.raiseHalt_started (s : State) (r : HaltReason) : (s.raiseHalt r).started = s.started := rfl

end Sys2Proof.Machine
end

