-- ==== Sys2Proof/Laws/Bus.lean ====
section
/-! SUPPORT. What a bus transaction, a stack access and an instruction-stream fetch can do: a read changes LOG and the
draw counter only, a write changes MEM and LOG only, a push or pop changes SP as well, a fetch PC as well. -/

namespace Sys2Proof.Machine

/-- A bus read of a RAM or ROM address answers the memory byte (20_memory.md R44). -/
theorem State.busByte_of_not_mmio (s : State) (a : Word) (h : regionOf s.cfg a ≠ .mmio) :
    s.busByte a = s.mem.read a.toNat := by
  unfold State.busByte
  split <;> simp_all

/-- A bus read of a RAM or ROM address changes nothing (R44). -/
theorem State.afterRead_of_not_mmio (s : State) (a : Word) (h : regionOf s.cfg a ≠ .mmio) :
    s.afterRead a = s := by
  unfold State.afterRead
  split <;> simp_all

/-- Everything a bus read can do (R44): nothing, or one event, which is a device read exactly when a byte was
drawn under the MMIO bit. -/
theorem State.afterRead_cases (s : State) (a : Word) :
    s.afterRead a = s
      ∨ (s.mayMmio = true ∧ ∃ i, s.afterRead a = s.drawn.emit (.deviceRead i a (Config.deviceByte s.draws i a)))
      ∨ (s.mayMmio = true ∧ s.afterRead a = s.emit (.mmioUnmatched .read a))
      ∨ (s.mayMmio = false ∧ s.afterRead a = s.emit (.mmioPermissionDenied .read a)) := by
  unfold State.afterRead
  split
  · exact .inl rfl
  · exact .inl rfl
  · split
    · rename_i hm
      split
      · rename_i i _
        exact .inr (.inl ⟨hm, i, rfl⟩)
      · exact .inr (.inr (.inl ⟨hm, rfl⟩))
    · rename_i hm
      exact .inr (.inr (.inr ⟨by simpa using hm, rfl⟩))

/-- Everything a bus write can do (20_memory.md R45): store in RAM, or one event. -/
theorem State.busWrite_cases (s : State) (a : Word) (v : Byte) :
    (regionOf s.cfg a = .ram ∧ s.busWrite a v = s.setMem a v)
      ∨ (regionOf s.cfg a = .rom ∧ s.busWrite a v = s.emit (.romWriteIgnored a v))
      ∨ (regionOf s.cfg a = .mmio ∧ s.mayMmio = true ∧ ∃ i, s.busWrite a v = s.emit (.deviceWrite i a v))
      ∨ (regionOf s.cfg a = .mmio ∧ s.mayMmio = true ∧ s.busWrite a v = s.emit (.mmioUnmatched (.write v) a))
      ∨ (regionOf s.cfg a = .mmio ∧ s.mayMmio = false
          ∧ s.busWrite a v = s.emit (.mmioPermissionDenied (.write v) a)) := by
  unfold State.busWrite
  split
  · rename_i h
    exact .inl ⟨h, rfl⟩
  · rename_i h
    exact .inr (.inl ⟨h, rfl⟩)
  · rename_i h
    split
    · rename_i hm
      split
      · rename_i i _
        exact .inr (.inr (.inl ⟨h, hm, i, rfl⟩))
      · exact .inr (.inr (.inr (.inl ⟨h, hm, rfl⟩)))
    · rename_i hm
      exact .inr (.inr (.inr (.inr ⟨h, by simpa using hm, rfl⟩)))

@[simp] theorem State.afterRead_a (s : State) (b : Word) : (s.afterRead b).a = s.a := by
  unfold State.afterRead; (repeat' split) <;> rfl
@[simp] theorem State.afterRead_x (s : State) (b : Word) : (s.afterRead b).x = s.x := by
  unfold State.afterRead; (repeat' split) <;> rfl
@[simp] theorem State.afterRead_y (s : State) (b : Word) : (s.afterRead b).y = s.y := by
  unfold State.afterRead; (repeat' split) <;> rfl
@[simp] theorem State.afterRead_sp (s : State) (b : Word) : (s.afterRead b).sp = s.sp := by
  unfold State.afterRead; (repeat' split) <;> rfl
@[simp] theorem State.afterRead_ps (s : State) (b : Word) : (s.afterRead b).ps = s.ps := by
  unfold State.afterRead; (repeat' split) <;> rfl
@[simp] theorem State.afterRead_pc (s : State) (b : Word) : (s.afterRead b).pc = s.pc := by
  unfold State.afterRead; (repeat' split) <;> rfl
@[simp] theorem State.afterRead_mem (s : State) (b : Word) : (s.afterRead b).mem = s.mem := by
  unfold State.afterRead; (repeat' split) <;> rfl
@[simp] theorem State.afterRead_accessType (s : State) (b : Word) : (s.afterRead b).accessType = s.accessType := by
  unfold State.afterRead; (repeat' split) <;> rfl
@[simp] theorem State.afterRead_budget (s : State) (b : Word) : (s.afterRead b).budget = s.budget := by
  unfold State.afterRead; (repeat' split) <;> rfl
@[simp] theorem State.afterRead_total (s : State) (b : Word) : (s.afterRead b).total = s.total := by
  unfold State.afterRead; (repeat' split) <;> rfl
@[simp] theorem State.afterRead_halted (s : State) (b : Word) : (s.afterRead b).halted = s.halted := by
  unfold State.afterRead; (repeat' split) <;> rfl
@[simp] theorem State.afterRead_haltReason (s : State) (b : Word) : (s.afterRead b).haltReason = s.haltReason := by
  unfold State.afterRead; (repeat' split) <;> rfl
@[simp] theorem State.afterRead_ready (s : State) (b : Word) : (s.afterRead b).ready = s.ready := by
  unfold State.afterRead; (repeat' split) <;> rfl
@[simp] theorem State.afterRead_cfg (s : State) (b : Word) : (s.afterRead b).cfg = s.cfg := by
  unfold State.afterRead; (repeat' split) <;> rfl
@[simp] theorem State.afterRead_extra (s : State) (b : Word) : (s.afterRead b).extra = s.extra := by
  unfold State.afterRead; (repeat' split) <;> rfl
@[simp] theorem State.afterRead_started (s : State) (b : Word) : (s.afterRead b).started = s.started := by
  unfold State.afterRead; (repeat' split) <;> rfl

@[simp] theorem State.busWrite_a (s : State) (b : Word) (v : Byte) : (s.busWrite b v).a = s.a := by
  unfold State.busWrite; (repeat' split) <;> rfl
@[simp] theorem State.busWrite_x (s : State) (b : Word) (v : Byte) : (s.busWrite b v).x = s.x := by
  unfold State.busWrite; (repeat' split) <;> rfl
@[simp] theorem State.busWrite_y (s : State) (b : Word) (v : Byte) : (s.busWrite b v).y = s.y := by
  unfold State.busWrite; (repeat' split) <;> rfl
@[simp] theorem State.busWrite_sp (s : State) (b : Word) (v : Byte) : (s.busWrite b v).sp = s.sp := by
  unfold State.busWrite; (repeat' split) <;> rfl
@[simp] theorem State.busWrite_ps (s : State) (b : Word) (v : Byte) : (s.busWrite b v).ps = s.ps := by
  unfold State.busWrite; (repeat' split) <;> rfl
@[simp] theorem State.busWrite_pc (s : State) (b : Word) (v : Byte) : (s.busWrite b v).pc = s.pc := by
  unfold State.busWrite; (repeat' split) <;> rfl
@[simp] theorem State.busWrite_accessType (s : State) (b : Word) (v : Byte) : (s.busWrite b v).accessType = s.accessType := by
  unfold State.busWrite; (repeat' split) <;> rfl
@[simp] theorem State.busWrite_budget (s : State) (b : Word) (v : Byte) : (s.busWrite b v).budget = s.budget := by
  unfold State.busWrite; (repeat' split) <;> rfl
@[simp] theorem State.busWrite_total (s : State) (b : Word) (v : Byte) : (s.busWrite b v).total = s.total := by
  unfold State.busWrite; (repeat' split) <;> rfl
@[simp] theorem State.busWrite_halted (s : State) (b : Word) (v : Byte) : (s.busWrite b v).halted = s.halted := by
  unfold State.busWrite; (repeat' split) <;> rfl
@[simp] theorem State.busWrite_haltReason (s : State) (b : Word) (v : Byte) : (s.busWrite b v).haltReason = s.haltReason := by
  unfold State.busWrite; (repeat' split) <;> rfl
@[simp] theorem State.busWrite_ready (s : State) (b : Word) (v : Byte) : (s.busWrite b v).ready = s.ready := by
  unfold State.busWrite; (repeat' split) <;> rfl
@[simp] theorem State.busWrite_cfg (s : State) (b : Word) (v : Byte) : (s.busWrite b v).cfg = s.cfg := by
  unfold State.busWrite; (repeat' split) <;> rfl
@[simp] theorem State.busWrite_draws (s : State) (b : Word) (v : Byte) : (s.busWrite b v).draws = s.draws := by
  unfold State.busWrite; (repeat' split) <;> rfl
@[simp] theorem State.busWrite_extra (s : State) (b : Word) (v : Byte) : (s.busWrite b v).extra = s.extra := by
  unfold State.busWrite; (repeat' split) <;> rfl
@[simp] theorem State.busWrite_started (s : State) (b : Word) (v : Byte) : (s.busWrite b v).started = s.started := by
  unfold State.busWrite; (repeat' split) <;> rfl

@[simp] theorem State.afterPair_a (s : State) (lo hi : Word) : (s.afterPair lo hi).a = s.a := by
  simp [State.afterPair]
@[simp] theorem State.afterPair_x (s : State) (lo hi : Word) : (s.afterPair lo hi).x = s.x := by
  simp [State.afterPair]
@[simp] theorem State.afterPair_y (s : State) (lo hi : Word) : (s.afterPair lo hi).y = s.y := by
  simp [State.afterPair]
@[simp] theorem State.afterPair_sp (s : State) (lo hi : Word) : (s.afterPair lo hi).sp = s.sp := by
  simp [State.afterPair]
@[simp] theorem State.afterPair_ps (s : State) (lo hi : Word) : (s.afterPair lo hi).ps = s.ps := by
  simp [State.afterPair]
@[simp] theorem State.afterPair_pc (s : State) (lo hi : Word) : (s.afterPair lo hi).pc = s.pc := by
  simp [State.afterPair]
@[simp] theorem State.afterPair_mem (s : State) (lo hi : Word) : (s.afterPair lo hi).mem = s.mem := by
  simp [State.afterPair]
@[simp] theorem State.afterPair_accessType (s : State) (lo hi : Word) : (s.afterPair lo hi).accessType = s.accessType := by
  simp [State.afterPair]
@[simp] theorem State.afterPair_budget (s : State) (lo hi : Word) : (s.afterPair lo hi).budget = s.budget := by
  simp [State.afterPair]
@[simp] theorem State.afterPair_total (s : State) (lo hi : Word) : (s.afterPair lo hi).total = s.total := by
  simp [State.afterPair]
@[simp] theorem State.afterPair_halted (s : State) (lo hi : Word) : (s.afterPair lo hi).halted = s.halted := by
  simp [State.afterPair]
@[simp] theorem State.afterPair_haltReason (s : State) (lo hi : Word) : (s.afterPair lo hi).haltReason = s.haltReason := by
  simp [State.afterPair]
@[simp] theorem State.afterPair_ready (s : State) (lo hi : Word) : (s.afterPair lo hi).ready = s.ready := by
  simp [State.afterPair]
@[simp] theorem State.afterPair_cfg (s : State) (lo hi : Word) : (s.afterPair lo hi).cfg = s.cfg := by
  simp [State.afterPair]
@[simp] theorem State.afterPair_extra (s : State) (lo hi : Word) : (s.afterPair lo hi).extra = s.extra := by
  simp [State.afterPair]
@[simp] theorem State.afterPair_started (s : State) (lo hi : Word) : (s.afterPair lo hi).started = s.started := by
  simp [State.afterPair]

@[simp] theorem State.afterFetch_a (s : State) : s.afterFetch.a = s.a := by
  simp [State.afterFetch]
@[simp] theorem State.afterFetch_x (s : State) : s.afterFetch.x = s.x := by
  simp [State.afterFetch]
@[simp] theorem State.afterFetch_y (s : State) : s.afterFetch.y = s.y := by
  simp [State.afterFetch]
@[simp] theorem State.afterFetch_sp (s : State) : s.afterFetch.sp = s.sp := by
  simp [State.afterFetch]
@[simp] theorem State.afterFetch_ps (s : State) : s.afterFetch.ps = s.ps := by
  simp [State.afterFetch]
@[simp] theorem State.afterFetch_mem (s : State) : s.afterFetch.mem = s.mem := by
  simp [State.afterFetch]
@[simp] theorem State.afterFetch_accessType (s : State) : s.afterFetch.accessType = s.accessType := by
  simp [State.afterFetch]
@[simp] theorem State.afterFetch_budget (s : State) : s.afterFetch.budget = s.budget := by
  simp [State.afterFetch]
@[simp] theorem State.afterFetch_total (s : State) : s.afterFetch.total = s.total := by
  simp [State.afterFetch]
@[simp] theorem State.afterFetch_halted (s : State) : s.afterFetch.halted = s.halted := by
  simp [State.afterFetch]
@[simp] theorem State.afterFetch_haltReason (s : State) : s.afterFetch.haltReason = s.haltReason := by
  simp [State.afterFetch]
@[simp] theorem State.afterFetch_ready (s : State) : s.afterFetch.ready = s.ready := by
  simp [State.afterFetch]
@[simp] theorem State.afterFetch_cfg (s : State) : s.afterFetch.cfg = s.cfg := by
  simp [State.afterFetch]
@[simp] theorem State.afterFetch_extra (s : State) : s.afterFetch.extra = s.extra := by
  simp [State.afterFetch]
@[simp] theorem State.afterFetch_started (s : State) : s.afterFetch.started = s.started := by
  simp [State.afterFetch]

@[simp] theorem State.afterFetch_pc (s : State) : s.afterFetch.pc = s.pc + 1 := by
  simp [State.afterFetch]

@[simp] theorem State.push_a (s : State) (v : Byte) : (s.push v).a = s.a := by
  simp [State.push]
@[simp] theorem State.push_x (s : State) (v : Byte) : (s.push v).x = s.x := by
  simp [State.push]
@[simp] theorem State.push_y (s : State) (v : Byte) : (s.push v).y = s.y := by
  simp [State.push]
@[simp] theorem State.push_ps (s : State) (v : Byte) : (s.push v).ps = s.ps := by
  simp [State.push]
@[simp] theorem State.push_pc (s : State) (v : Byte) : (s.push v).pc = s.pc := by
  simp [State.push]
@[simp] theorem State.push_accessType (s : State) (v : Byte) : (s.push v).accessType = s.accessType := by
  simp [State.push]
@[simp] theorem State.push_budget (s : State) (v : Byte) : (s.push v).budget = s.budget := by
  simp [State.push]
@[simp] theorem State.push_total (s : State) (v : Byte) : (s.push v).total = s.total := by
  simp [State.push]
@[simp] theorem State.push_halted (s : State) (v : Byte) : (s.push v).halted = s.halted := by
  simp [State.push]
@[simp] theorem State.push_haltReason (s : State) (v : Byte) : (s.push v).haltReason = s.haltReason := by
  simp [State.push]
@[simp] theorem State.push_ready (s : State) (v : Byte) : (s.push v).ready = s.ready := by
  simp [State.push]
@[simp] theorem State.push_cfg (s : State) (v : Byte) : (s.push v).cfg = s.cfg := by
  simp [State.push]
@[simp] theorem State.push_draws (s : State) (v : Byte) : (s.push v).draws = s.draws := by
  simp [State.push]
@[simp] theorem State.push_extra (s : State) (v : Byte) : (s.push v).extra = s.extra := by
  simp [State.push]
@[simp] theorem State.push_started (s : State) (v : Byte) : (s.push v).started = s.started := by
  simp [State.push]

@[simp] theorem State.push_sp (s : State) (v : Byte) : (s.push v).sp = s.sp - 1 := by
  simp [State.push]

@[simp] theorem State.afterPop_a (s : State) : s.afterPop.a = s.a := by
  simp [State.afterPop]
@[simp] theorem State.afterPop_x (s : State) : s.afterPop.x = s.x := by
  simp [State.afterPop]
@[simp] theorem State.afterPop_y (s : State) : s.afterPop.y = s.y := by
  simp [State.afterPop]
@[simp] theorem State.afterPop_ps (s : State) : s.afterPop.ps = s.ps := by
  simp [State.afterPop]
@[simp] theorem State.afterPop_pc (s : State) : s.afterPop.pc = s.pc := by
  simp [State.afterPop]
@[simp] theorem State.afterPop_mem (s : State) : s.afterPop.mem = s.mem := by
  simp [State.afterPop]
@[simp] theorem State.afterPop_accessType (s : State) : s.afterPop.accessType = s.accessType := by
  simp [State.afterPop]
@[simp] theorem State.afterPop_budget (s : State) : s.afterPop.budget = s.budget := by
  simp [State.afterPop]
@[simp] theorem State.afterPop_total (s : State) : s.afterPop.total = s.total := by
  simp [State.afterPop]
@[simp] theorem State.afterPop_halted (s : State) : s.afterPop.halted = s.halted := by
  simp [State.afterPop]
@[simp] theorem State.afterPop_haltReason (s : State) : s.afterPop.haltReason = s.haltReason := by
  simp [State.afterPop]
@[simp] theorem State.afterPop_ready (s : State) : s.afterPop.ready = s.ready := by
  simp [State.afterPop]
@[simp] theorem State.afterPop_cfg (s : State) : s.afterPop.cfg = s.cfg := by
  simp [State.afterPop]
@[simp] theorem State.afterPop_extra (s : State) : s.afterPop.extra = s.extra := by
  simp [State.afterPop]
@[simp] theorem State.afterPop_started (s : State) : s.afterPop.started = s.started := by
  simp [State.afterPop]

@[simp] theorem State.afterPop_sp (s : State) : s.afterPop.sp = s.sp + 1 := by
  simp [State.afterPop]

@[simp] theorem State.pushWord_a (s : State) (w : Word) : (s.pushWord w).a = s.a := by
  simp [State.pushWord]
@[simp] theorem State.pushWord_x (s : State) (w : Word) : (s.pushWord w).x = s.x := by
  simp [State.pushWord]
@[simp] theorem State.pushWord_y (s : State) (w : Word) : (s.pushWord w).y = s.y := by
  simp [State.pushWord]
@[simp] theorem State.pushWord_ps (s : State) (w : Word) : (s.pushWord w).ps = s.ps := by
  simp [State.pushWord]
@[simp] theorem State.pushWord_pc (s : State) (w : Word) : (s.pushWord w).pc = s.pc := by
  simp [State.pushWord]
@[simp] theorem State.pushWord_accessType (s : State) (w : Word) : (s.pushWord w).accessType = s.accessType := by
  simp [State.pushWord]
@[simp] theorem State.pushWord_budget (s : State) (w : Word) : (s.pushWord w).budget = s.budget := by
  simp [State.pushWord]
@[simp] theorem State.pushWord_total (s : State) (w : Word) : (s.pushWord w).total = s.total := by
  simp [State.pushWord]
@[simp] theorem State.pushWord_halted (s : State) (w : Word) : (s.pushWord w).halted = s.halted := by
  simp [State.pushWord]
@[simp] theorem State.pushWord_haltReason (s : State) (w : Word) : (s.pushWord w).haltReason = s.haltReason := by
  simp [State.pushWord]
@[simp] theorem State.pushWord_ready (s : State) (w : Word) : (s.pushWord w).ready = s.ready := by
  simp [State.pushWord]
@[simp] theorem State.pushWord_cfg (s : State) (w : Word) : (s.pushWord w).cfg = s.cfg := by
  simp [State.pushWord]
@[simp] theorem State.pushWord_draws (s : State) (w : Word) : (s.pushWord w).draws = s.draws := by
  simp [State.pushWord]
@[simp] theorem State.pushWord_extra (s : State) (w : Word) : (s.pushWord w).extra = s.extra := by
  simp [State.pushWord]
@[simp] theorem State.pushWord_started (s : State) (w : Word) : (s.pushWord w).started = s.started := by
  simp [State.pushWord]

@[simp] theorem State.afterPopWord_a (s : State) : s.afterPopWord.a = s.a := by
  simp [State.afterPopWord]
@[simp] theorem State.afterPopWord_x (s : State) : s.afterPopWord.x = s.x := by
  simp [State.afterPopWord]
@[simp] theorem State.afterPopWord_y (s : State) : s.afterPopWord.y = s.y := by
  simp [State.afterPopWord]
@[simp] theorem State.afterPopWord_ps (s : State) : s.afterPopWord.ps = s.ps := by
  simp [State.afterPopWord]
@[simp] theorem State.afterPopWord_pc (s : State) : s.afterPopWord.pc = s.pc := by
  simp [State.afterPopWord]
@[simp] theorem State.afterPopWord_mem (s : State) : s.afterPopWord.mem = s.mem := by
  simp [State.afterPopWord]
@[simp] theorem State.afterPopWord_accessType (s : State) : s.afterPopWord.accessType = s.accessType := by
  simp [State.afterPopWord]
@[simp] theorem State.afterPopWord_budget (s : State) : s.afterPopWord.budget = s.budget := by
  simp [State.afterPopWord]
@[simp] theorem State.afterPopWord_total (s : State) : s.afterPopWord.total = s.total := by
  simp [State.afterPopWord]
@[simp] theorem State.afterPopWord_halted (s : State) : s.afterPopWord.halted = s.halted := by
  simp [State.afterPopWord]
@[simp] theorem State.afterPopWord_haltReason (s : State) : s.afterPopWord.haltReason = s.haltReason := by
  simp [State.afterPopWord]
@[simp] theorem State.afterPopWord_ready (s : State) : s.afterPopWord.ready = s.ready := by
  simp [State.afterPopWord]
@[simp] theorem State.afterPopWord_cfg (s : State) : s.afterPopWord.cfg = s.cfg := by
  simp [State.afterPopWord]
@[simp] theorem State.afterPopWord_extra (s : State) : s.afterPopWord.extra = s.extra := by
  simp [State.afterPopWord]
@[simp] theorem State.afterPopWord_started (s : State) : s.afterPopWord.started = s.started := by
  simp [State.afterPopWord]

/-- A bus write leaves every other byte of memory alone, and stores at a RAM address only (R45, R46, R53). -/
theorem State.busWrite_read (s : State) (a : Word) (v : Byte) (b : Word) :
    (s.busWrite a v).mem.read b.toNat
      = if b = a ∧ regionOf s.cfg a = .ram then v else s.mem.read b.toNat := by
  obtain ⟨h, e⟩ | ⟨h, e⟩ | ⟨h, _, i, e⟩ | ⟨h, _, e⟩ | ⟨h, _, e⟩ := s.busWrite_cases a v <;>
    simp [e, h, Memory.read_write, BitVec.toNat_inj, eq_comm]

/-- A bus write keeps the canonical form of memory. -/
theorem State.busWrite_wf (s : State) (a : Word) (v : Byte) (h : s.mem.wf = true) :
    (s.busWrite a v).mem.wf = true := by
  obtain ⟨_, e⟩ | ⟨_, e⟩ | ⟨_, _, i, e⟩ | ⟨_, _, e⟩ | ⟨_, _, e⟩ := s.busWrite_cases a v <;>
    simp [e, h, Memory.wf_write _ _ _ h a.isLt]

/-- A push keeps the canonical form of memory. -/
theorem State.push_wf (s : State) (v : Byte) (h : s.mem.wf = true) : (s.push v).mem.wf = true := by
  simpa [State.push] using s.busWrite_wf (stackAddr s.sp) v h

/-- The raw primitive keeps the canonical form of memory. -/
theorem State.rawPoke_wf (s : State) (a : Word) (v : Byte) (h : s.mem.wf = true) :
    (s.rawPoke a v).mem.wf = true := by
  simpa [State.rawPoke] using Memory.wf_write _ _ _ h a.isLt

/-- `peek` after `poke` (10_state.md R25). -/
theorem State.peek_rawPoke (s : State) (a b : Word) (v : Byte) :
    (s.rawPoke a v).peek b = if b = a then v else s.peek b := by
  simp [State.peek, State.rawPoke, Memory.read_write, BitVec.toNat_inj, eq_comm]

/-- A push decrements SP; the byte it hands to the bus is the one stored when the cell is RAM
(48_stack_control.md R200). -/
theorem State.push_read (s : State) (v : Byte) (b : Word) :
    (s.push v).mem.read b.toNat
      = if b = stackAddr s.sp ∧ regionOf s.cfg (stackAddr s.sp) = .ram then v else s.mem.read b.toNat := by
  simp [State.push, State.busWrite_read]

/-- `n` successive fetches move PC by the number of bytes fetched. -/
theorem State.afterFetches_pc (n : Nat) (s : State) :
    (State.afterFetches n s).pc = s.pc + BitVec.ofNat 16 n := by
  induction n generalizing s with
  | zero => simp [State.afterFetches]
  | succ n ih =>
    rw [State.afterFetches, ih, State.afterFetch_pc, BitVec.add_assoc, Nat.add_comm n 1, BitVec.ofNat_add]
    rfl

/-! ### Each operation as one record equation -/

/-- A bus read changes LOG and the draw counter only (20_memory.md R44). -/
theorem State.afterRead_eq (s : State) (a : Word) :
    s.afterRead a = { s with log := (s.afterRead a).log, draws := (s.afterRead a).draws } := by
  ext1 <;> simp

/-- A bus write changes MEM and LOG only (R45). -/
theorem State.busWrite_eq (s : State) (a : Word) (v : Byte) :
    s.busWrite a v = { s with mem := (s.busWrite a v).mem, log := (s.busWrite a v).log } := by
  ext1 <;> simp

/-- Two bus reads change LOG and the draw counter only (R56). -/
theorem State.afterPair_eq (s : State) (lo hi : Word) :
    s.afterPair lo hi = { s with log := (s.afterPair lo hi).log, draws := (s.afterPair lo hi).draws } := by
  ext1 <;> simp

/-- A fetch moves PC by one and reads (40_engine_and_addressing.md R104). -/
theorem State.afterFetch_eq (s : State) :
    s.afterFetch = { s with pc := s.pc + 1, log := s.afterFetch.log, draws := s.afterFetch.draws } := by
  ext1 <;> simp

/-- `n` fetches move PC by `n` and read. -/
theorem State.afterFetches_eq (n : Nat) (s : State) :
    State.afterFetches n s
      = { s with
          pc := s.pc + BitVec.ofNat 16 n
          log := (State.afterFetches n s).log
          draws := (State.afterFetches n s).draws } := by
  induction n generalizing s with
  | zero => simp [State.afterFetches]
  | succ n ih =>
    have e : s.afterFetch.pc + BitVec.ofNat 16 n = s.pc + BitVec.ofNat 16 (n + 1) := by
      rw [State.afterFetch_pc, BitVec.add_assoc, Nat.add_comm n 1, BitVec.ofNat_add]
      rfl
    rw [State.afterFetches, ih, e]
    ext1 <;> simp

/-- A push changes SP, MEM and LOG only (48_stack_control.md R200). -/
theorem State.push_eq (s : State) (v : Byte) :
    s.push v
      = { s with
          sp := s.sp - 1
          mem := (s.busWrite (stackAddr s.sp) v).mem
          log := (s.busWrite (stackAddr s.sp) v).log } := by
  ext1 <;> simp [State.push]

/-- A pop changes SP, LOG and the draw counter only (R201). -/
theorem State.afterPop_eq (s : State) :
    s.afterPop = { s with sp := s.sp + 1, log := s.afterPop.log, draws := s.afterPop.draws } := by
  ext1 <;> simp

/-! ### The permission gate, and what the bus does not depend on -/

/-- The permission gate is bit 2 of AT (20_memory.md R47). -/
theorem State.mayMmio_eq (s : State) : s.mayMmio = s.accessType.getLsbD 2 := by
  unfold State.mayMmio
  generalize s.accessType = m
  revert m
  decide

/-- A bus read does not depend on PS. -/
theorem State.busByte_setPS (s : State) (p : Byte) (a : Word) : (s.setPS p).busByte a = s.busByte a := rfl

/-- A bus read does not touch PS. -/
theorem State.afterRead_setPS (s : State) (p : Byte) (a : Word) :
    (s.setPS p).afterRead a = (s.afterRead a).setPS p := by
  have hm : (s.setPS p).mayMmio = s.mayMmio := rfl
  simp only [State.afterRead, hm, State.setPS_cfg, State.setPS_draws]
  cases regionOf s.cfg a with
  | ram => rfl
  | rom => rfl
  | mmio =>
    cases s.mayMmio with
    | false => rfl
    | true => cases firstDevice s.cfg a <;> rfl

/-- Two bus reads do not touch PS. -/
theorem State.afterPair_setPS (s : State) (p : Byte) (lo hi : Word) :
    (s.setPS p).afterPair lo hi = (s.afterPair lo hi).setPS p := by
  unfold State.afterPair
  rw [State.afterRead_setPS, State.afterRead_setPS]

/-- The value of two bus reads does not depend on PS. -/
theorem State.busPair_setPS (s : State) (p : Byte) (lo hi : Word) :
    (s.setPS p).busPair lo hi = s.busPair lo hi := by
  unfold State.busPair
  rw [State.afterRead_setPS, State.busByte_setPS, State.busByte_setPS]

/-- A pop does not touch PS. -/
theorem State.afterPop_setPS (s : State) (p : Byte) : (s.setPS p).afterPop = s.afterPop.setPS p :=
  State.afterRead_setPS (s.setSP (s.sp + 1)) p (stackAddr (s.sp + 1))

/-- A pop answers the byte at the incremented SP (48_stack_control.md R201). -/
theorem State.popByte_eq (s : State) : s.popByte = s.busByte (stackAddr (s.sp + 1)) := rfl

/-- The stack cell of an SP value is `0x0100 + SP` (10_state.md R12). -/
theorem stackAddr_toNat (sp : Byte) : (stackAddr sp).toNat = 256 + sp.toNat := by
  revert sp
  decide +kernel

end Sys2Proof.Machine
end

