-- ==== Sys2Proof/Laws/Exec.lean ====
section
/-! SUPPORT. Everything `exec` can answer: a next state, always, and which shared meaning gives it. -/

namespace Sys2Proof.Machine

/-- The shapes of a next state of `exec i s`: one alternative per shared meaning, with the mnemonic and operand of the
instructions that have it. -/
inductive ExecShape (s : State) : Instr → State → Prop where
  | lda (i : Instr) (f : ReadForm) : i.mnemonic = .LDA → i.operand = f.operand → ExecShape s i (s.lda f)
  | ldx (i : Instr) (f : ReadForm) : i.mnemonic = .LDX → i.operand = f.operand → ExecShape s i (s.ldx f)
  | ldy (i : Instr) (f : ReadForm) : i.mnemonic = .LDY → i.operand = f.operand → ExecShape s i (s.ldy f)
  | adc (i : Instr) (f : ReadForm) : i.mnemonic = .ADC → i.operand = f.operand → ExecShape s i (s.adc f)
  | sbc (i : Instr) (f : ReadForm) : i.mnemonic = .SBC → i.operand = f.operand → ExecShape s i (s.sbc f)
  | bit (i : Instr) (f : ReadForm) : i.mnemonic = .BIT → i.operand = f.operand → ExecShape s i (s.bit f)
  | cmp (i : Instr) (f : ReadForm) : i.mnemonic = .CMP → i.operand = f.operand → ExecShape s i (s.cmp f)
  | cpx (i : Instr) (f : ReadForm) : i.mnemonic = .CPX → i.operand = f.operand → ExecShape s i (s.cpx f)
  | cpy (i : Instr) (f : ReadForm) : i.mnemonic = .CPY → i.operand = f.operand → ExecShape s i (s.cpy f)
  | and_ (i : Instr) (f : ReadForm) : i.mnemonic = .AND → i.operand = f.operand → ExecShape s i (s.and f)
  | ora_ (i : Instr) (f : ReadForm) : i.mnemonic = .ORA → i.operand = f.operand → ExecShape s i (s.ora f)
  | eor_ (i : Instr) (f : ReadForm) : i.mnemonic = .EOR → i.operand = f.operand → ExecShape s i (s.eor f)
  | sta (i : Instr) (m : MemForm) : i.mnemonic = .STA → i.operand = .mem m → ExecShape s i (s.sta m)
  | stx (i : Instr) (m : MemForm) : i.mnemonic = .STX → i.operand = .mem m → ExecShape s i (s.stx m)
  | sty (i : Instr) (m : MemForm) : i.mnemonic = .STY → i.operand = .mem m → ExecShape s i (s.sty m)
  | inc (i : Instr) (m : MemForm) : i.mnemonic = .INC → i.operand = .mem m → ExecShape s i (s.inc m)
  | dec (i : Instr) (m : MemForm) : i.mnemonic = .DEC → i.operand = .mem m → ExecShape s i (s.dec m)
  | asl (i : Instr) (f : RmwForm) : i.mnemonic = .ASL → i.operand = f.operand → ExecShape s i (s.asl f)
  | lsr (i : Instr) (f : RmwForm) : i.mnemonic = .LSR → i.operand = f.operand → ExecShape s i (s.lsr f)
  | rol (i : Instr) (f : RmwForm) : i.mnemonic = .ROL → i.operand = f.operand → ExecShape s i (s.rol f)
  | ror (i : Instr) (f : RmwForm) : i.mnemonic = .ROR → i.operand = f.operand → ExecShape s i (s.ror f)
  | bcc (off : Byte) : ExecShape s (.bcc off) (s.branch (!s.flag .C) off)
  | bcs (off : Byte) : ExecShape s (.bcs off) (s.branch (s.flag .C) off)
  | beq (off : Byte) : ExecShape s (.beq off) (s.branch (s.flag .Z) off)
  | bne (off : Byte) : ExecShape s (.bne off) (s.branch (!s.flag .Z) off)
  | bmi (off : Byte) : ExecShape s (.bmi off) (s.branch (s.flag .N) off)
  | bpl (off : Byte) : ExecShape s (.bpl off) (s.branch (!s.flag .N) off)
  | bvc (off : Byte) : ExecShape s (.bvc off) (s.branch (!s.flag .V) off)
  | bvs (off : Byte) : ExecShape s (.bvs off) (s.branch (s.flag .V) off)
  | clc : ExecShape s .clc ((s.putFlag .C false).setExtra 0)
  | sec : ExecShape s .sec ((s.putFlag .C true).setExtra 0)
  | cld : ExecShape s .cld ((s.putFlag .D false).setExtra 0)
  | sed : ExecShape s .sed ((s.putFlag .D true).setExtra 0)
  | cli : ExecShape s .cli ((s.putFlag .I false).setExtra 0)
  | sei : ExecShape s .sei ((s.putFlag .I true).setExtra 0)
  | clv : ExecShape s .clv ((s.putFlag .V false).setExtra 0)
  | nop : ExecShape s .nop (s.setExtra 0)
  | tax : ExecShape s .tax (((s.setX s.a).setZN s.a).setExtra 0)
  | tay : ExecShape s .tay (((s.setY s.a).setZN s.a).setExtra 0)
  | txa : ExecShape s .txa (((s.setA s.x).setZN s.x).setExtra 0)
  | tya : ExecShape s .tya (((s.setA s.y).setZN s.y).setExtra 0)
  | tsx : ExecShape s .tsx (((s.setX s.sp).setZN s.sp).setExtra 0)
  | txs : ExecShape s .txs ((s.setSP s.x).setExtra 0)
  | inx : ExecShape s .inx (((s.setX (s.x + 1)).setZN (s.x + 1)).setExtra 0)
  | iny : ExecShape s .iny (((s.setY (s.y + 1)).setZN (s.y + 1)).setExtra 0)
  | dex : ExecShape s .dex (((s.setX (s.x - 1)).setZN (s.x - 1)).setExtra 0)
  | dey : ExecShape s .dey (((s.setY (s.y - 1)).setZN (s.y - 1)).setExtra 0)
  | pha : ExecShape s .pha ((s.push s.a).setExtra 0)
  | pla : ExecShape s .pla (((s.afterPop.setA s.popByte).setZN s.popByte).setExtra 0)
  | php : ExecShape s .php ((s.push (pushedStatus s.ps)).setExtra 0)
  | plp : ExecShape s .plp ((s.afterPop.setPS s.popByte).setExtra 0)
  | jsr (target : Word) : ExecShape s (.jsr target) (((s.pushWord (s.pc - 1)).setPC target).setExtra 0)
  | rts : ExecShape s .rts ((s.afterPopWord.setPC (s.popWord + 1)).setExtra 0)
  | rti : ExecShape s .rti (s.returnFromTrap.setExtra 0)
  | brk : ExecShape s .brk ((((s.enterTrap (s.pc - 1)).emit (.brkHalt (s.pc - 1))).raiseHalt .brk).setExtra 0)
  | jmpAbs (target : Word) : ExecShape s (.jmpAbs target) ((s.setPC target).setExtra 0)
  | jmpInd (p : Word) : ExecShape s (.jmpInd p) (((s.afterIndirect p).setPC (s.indirectTarget p)).setExtra 0)

/-- `exec` answers a next state for every instruction and state, of one of the shapes. -/
theorem exec_shape (i : Instr) (s : State) : ∃ t, exec i s = .next t ∧ ExecShape s i t :=
  match i with
  | .ldaImm v => ⟨_, rfl, .lda _ (.imm v) rfl rfl⟩
  | .ldaZp b => ⟨_, rfl, .lda _ (.mem (.zp b)) rfl rfl⟩
  | .ldaZpx b => ⟨_, rfl, .lda _ (.mem (.zpx b)) rfl rfl⟩
  | .ldaAbs w => ⟨_, rfl, .lda _ (.mem (.abs w)) rfl rfl⟩
  | .ldaAbsx w => ⟨_, rfl, .lda _ (.mem (.absx w)) rfl rfl⟩
  | .ldaAbsy w => ⟨_, rfl, .lda _ (.mem (.absy w)) rfl rfl⟩
  | .ldaIndx b => ⟨_, rfl, .lda _ (.mem (.indx b)) rfl rfl⟩
  | .ldaIndy b => ⟨_, rfl, .lda _ (.mem (.indy b)) rfl rfl⟩
  | .ldxImm v => ⟨_, rfl, .ldx _ (.imm v) rfl rfl⟩
  | .ldxZp b => ⟨_, rfl, .ldx _ (.mem (.zp b)) rfl rfl⟩
  | .ldxZpy b => ⟨_, rfl, .ldx _ (.mem (.zpy b)) rfl rfl⟩
  | .ldxAbs w => ⟨_, rfl, .ldx _ (.mem (.abs w)) rfl rfl⟩
  | .ldxAbsy w => ⟨_, rfl, .ldx _ (.mem (.absy w)) rfl rfl⟩
  | .ldyImm v => ⟨_, rfl, .ldy _ (.imm v) rfl rfl⟩
  | .ldyZp b => ⟨_, rfl, .ldy _ (.mem (.zp b)) rfl rfl⟩
  | .ldyZpx b => ⟨_, rfl, .ldy _ (.mem (.zpx b)) rfl rfl⟩
  | .ldyAbs w => ⟨_, rfl, .ldy _ (.mem (.abs w)) rfl rfl⟩
  | .ldyAbsx w => ⟨_, rfl, .ldy _ (.mem (.absx w)) rfl rfl⟩
  | .staZp b => ⟨_, rfl, .sta _ (.zp b) rfl rfl⟩
  | .staZpx b => ⟨_, rfl, .sta _ (.zpx b) rfl rfl⟩
  | .staAbs w => ⟨_, rfl, .sta _ (.abs w) rfl rfl⟩
  | .staAbsx w => ⟨_, rfl, .sta _ (.absx w) rfl rfl⟩
  | .staAbsy w => ⟨_, rfl, .sta _ (.absy w) rfl rfl⟩
  | .staIndx b => ⟨_, rfl, .sta _ (.indx b) rfl rfl⟩
  | .staIndy b => ⟨_, rfl, .sta _ (.indy b) rfl rfl⟩
  | .stxZp b => ⟨_, rfl, .stx _ (.zp b) rfl rfl⟩
  | .stxZpy b => ⟨_, rfl, .stx _ (.zpy b) rfl rfl⟩
  | .stxAbs w => ⟨_, rfl, .stx _ (.abs w) rfl rfl⟩
  | .styZp b => ⟨_, rfl, .sty _ (.zp b) rfl rfl⟩
  | .styZpx b => ⟨_, rfl, .sty _ (.zpx b) rfl rfl⟩
  | .styAbs w => ⟨_, rfl, .sty _ (.abs w) rfl rfl⟩
  | .adcImm v => ⟨_, rfl, .adc _ (.imm v) rfl rfl⟩
  | .adcZp b => ⟨_, rfl, .adc _ (.mem (.zp b)) rfl rfl⟩
  | .adcZpx b => ⟨_, rfl, .adc _ (.mem (.zpx b)) rfl rfl⟩
  | .adcAbs w => ⟨_, rfl, .adc _ (.mem (.abs w)) rfl rfl⟩
  | .adcAbsx w => ⟨_, rfl, .adc _ (.mem (.absx w)) rfl rfl⟩
  | .adcAbsy w => ⟨_, rfl, .adc _ (.mem (.absy w)) rfl rfl⟩
  | .adcIndx b => ⟨_, rfl, .adc _ (.mem (.indx b)) rfl rfl⟩
  | .adcIndy b => ⟨_, rfl, .adc _ (.mem (.indy b)) rfl rfl⟩
  | .sbcImm v => ⟨_, rfl, .sbc _ (.imm v) rfl rfl⟩
  | .sbcZp b => ⟨_, rfl, .sbc _ (.mem (.zp b)) rfl rfl⟩
  | .sbcZpx b => ⟨_, rfl, .sbc _ (.mem (.zpx b)) rfl rfl⟩
  | .sbcAbs w => ⟨_, rfl, .sbc _ (.mem (.abs w)) rfl rfl⟩
  | .sbcAbsx w => ⟨_, rfl, .sbc _ (.mem (.absx w)) rfl rfl⟩
  | .sbcAbsy w => ⟨_, rfl, .sbc _ (.mem (.absy w)) rfl rfl⟩
  | .sbcIndx b => ⟨_, rfl, .sbc _ (.mem (.indx b)) rfl rfl⟩
  | .sbcIndy b => ⟨_, rfl, .sbc _ (.mem (.indy b)) rfl rfl⟩
  | .andImm v => ⟨_, rfl, .and_ _ (.imm v) rfl rfl⟩
  | .andZp b => ⟨_, rfl, .and_ _ (.mem (.zp b)) rfl rfl⟩
  | .andZpx b => ⟨_, rfl, .and_ _ (.mem (.zpx b)) rfl rfl⟩
  | .andAbs w => ⟨_, rfl, .and_ _ (.mem (.abs w)) rfl rfl⟩
  | .andAbsx w => ⟨_, rfl, .and_ _ (.mem (.absx w)) rfl rfl⟩
  | .andAbsy w => ⟨_, rfl, .and_ _ (.mem (.absy w)) rfl rfl⟩
  | .andIndx b => ⟨_, rfl, .and_ _ (.mem (.indx b)) rfl rfl⟩
  | .andIndy b => ⟨_, rfl, .and_ _ (.mem (.indy b)) rfl rfl⟩
  | .oraImm v => ⟨_, rfl, .ora_ _ (.imm v) rfl rfl⟩
  | .oraZp b => ⟨_, rfl, .ora_ _ (.mem (.zp b)) rfl rfl⟩
  | .oraZpx b => ⟨_, rfl, .ora_ _ (.mem (.zpx b)) rfl rfl⟩
  | .oraAbs w => ⟨_, rfl, .ora_ _ (.mem (.abs w)) rfl rfl⟩
  | .oraAbsx w => ⟨_, rfl, .ora_ _ (.mem (.absx w)) rfl rfl⟩
  | .oraAbsy w => ⟨_, rfl, .ora_ _ (.mem (.absy w)) rfl rfl⟩
  | .oraIndx b => ⟨_, rfl, .ora_ _ (.mem (.indx b)) rfl rfl⟩
  | .oraIndy b => ⟨_, rfl, .ora_ _ (.mem (.indy b)) rfl rfl⟩
  | .eorImm v => ⟨_, rfl, .eor_ _ (.imm v) rfl rfl⟩
  | .eorZp b => ⟨_, rfl, .eor_ _ (.mem (.zp b)) rfl rfl⟩
  | .eorZpx b => ⟨_, rfl, .eor_ _ (.mem (.zpx b)) rfl rfl⟩
  | .eorAbs w => ⟨_, rfl, .eor_ _ (.mem (.abs w)) rfl rfl⟩
  | .eorAbsx w => ⟨_, rfl, .eor_ _ (.mem (.absx w)) rfl rfl⟩
  | .eorAbsy w => ⟨_, rfl, .eor_ _ (.mem (.absy w)) rfl rfl⟩
  | .eorIndx b => ⟨_, rfl, .eor_ _ (.mem (.indx b)) rfl rfl⟩
  | .eorIndy b => ⟨_, rfl, .eor_ _ (.mem (.indy b)) rfl rfl⟩
  | .bitZp b => ⟨_, rfl, .bit _ (.mem (.zp b)) rfl rfl⟩
  | .bitAbs w => ⟨_, rfl, .bit _ (.mem (.abs w)) rfl rfl⟩
  | .cmpImm v => ⟨_, rfl, .cmp _ (.imm v) rfl rfl⟩
  | .cmpZp b => ⟨_, rfl, .cmp _ (.mem (.zp b)) rfl rfl⟩
  | .cmpZpx b => ⟨_, rfl, .cmp _ (.mem (.zpx b)) rfl rfl⟩
  | .cmpAbs w => ⟨_, rfl, .cmp _ (.mem (.abs w)) rfl rfl⟩
  | .cmpAbsx w => ⟨_, rfl, .cmp _ (.mem (.absx w)) rfl rfl⟩
  | .cmpAbsy w => ⟨_, rfl, .cmp _ (.mem (.absy w)) rfl rfl⟩
  | .cmpIndx b => ⟨_, rfl, .cmp _ (.mem (.indx b)) rfl rfl⟩
  | .cmpIndy b => ⟨_, rfl, .cmp _ (.mem (.indy b)) rfl rfl⟩
  | .cpxImm v => ⟨_, rfl, .cpx _ (.imm v) rfl rfl⟩
  | .cpxZp b => ⟨_, rfl, .cpx _ (.mem (.zp b)) rfl rfl⟩
  | .cpxAbs w => ⟨_, rfl, .cpx _ (.mem (.abs w)) rfl rfl⟩
  | .cpyImm v => ⟨_, rfl, .cpy _ (.imm v) rfl rfl⟩
  | .cpyZp b => ⟨_, rfl, .cpy _ (.mem (.zp b)) rfl rfl⟩
  | .cpyAbs w => ⟨_, rfl, .cpy _ (.mem (.abs w)) rfl rfl⟩
  | .aslAcc => ⟨_, rfl, .asl _ .acc rfl rfl⟩
  | .aslZp b => ⟨_, rfl, .asl _ (.mem (.zp b)) rfl rfl⟩
  | .aslZpx b => ⟨_, rfl, .asl _ (.mem (.zpx b)) rfl rfl⟩
  | .aslAbs w => ⟨_, rfl, .asl _ (.mem (.abs w)) rfl rfl⟩
  | .aslAbsx w => ⟨_, rfl, .asl _ (.mem (.absx w)) rfl rfl⟩
  | .lsrAcc => ⟨_, rfl, .lsr _ .acc rfl rfl⟩
  | .lsrZp b => ⟨_, rfl, .lsr _ (.mem (.zp b)) rfl rfl⟩
  | .lsrZpx b => ⟨_, rfl, .lsr _ (.mem (.zpx b)) rfl rfl⟩
  | .lsrAbs w => ⟨_, rfl, .lsr _ (.mem (.abs w)) rfl rfl⟩
  | .lsrAbsx w => ⟨_, rfl, .lsr _ (.mem (.absx w)) rfl rfl⟩
  | .rolAcc => ⟨_, rfl, .rol _ .acc rfl rfl⟩
  | .rolZp b => ⟨_, rfl, .rol _ (.mem (.zp b)) rfl rfl⟩
  | .rolZpx b => ⟨_, rfl, .rol _ (.mem (.zpx b)) rfl rfl⟩
  | .rolAbs w => ⟨_, rfl, .rol _ (.mem (.abs w)) rfl rfl⟩
  | .rolAbsx w => ⟨_, rfl, .rol _ (.mem (.absx w)) rfl rfl⟩
  | .rorAcc => ⟨_, rfl, .ror _ .acc rfl rfl⟩
  | .rorZp b => ⟨_, rfl, .ror _ (.mem (.zp b)) rfl rfl⟩
  | .rorZpx b => ⟨_, rfl, .ror _ (.mem (.zpx b)) rfl rfl⟩
  | .rorAbs w => ⟨_, rfl, .ror _ (.mem (.abs w)) rfl rfl⟩
  | .rorAbsx w => ⟨_, rfl, .ror _ (.mem (.absx w)) rfl rfl⟩
  | .incZp b => ⟨_, rfl, .inc _ (.zp b) rfl rfl⟩
  | .incZpx b => ⟨_, rfl, .inc _ (.zpx b) rfl rfl⟩
  | .incAbs w => ⟨_, rfl, .inc _ (.abs w) rfl rfl⟩
  | .incAbsx w => ⟨_, rfl, .inc _ (.absx w) rfl rfl⟩
  | .decZp b => ⟨_, rfl, .dec _ (.zp b) rfl rfl⟩
  | .decZpx b => ⟨_, rfl, .dec _ (.zpx b) rfl rfl⟩
  | .decAbs w => ⟨_, rfl, .dec _ (.abs w) rfl rfl⟩
  | .decAbsx w => ⟨_, rfl, .dec _ (.absx w) rfl rfl⟩
  | .inx => ⟨_, rfl, .inx⟩
  | .iny => ⟨_, rfl, .iny⟩
  | .dex => ⟨_, rfl, .dex⟩
  | .dey => ⟨_, rfl, .dey⟩
  | .bcc off => ⟨_, rfl, .bcc off⟩
  | .bcs off => ⟨_, rfl, .bcs off⟩
  | .beq off => ⟨_, rfl, .beq off⟩
  | .bne off => ⟨_, rfl, .bne off⟩
  | .bmi off => ⟨_, rfl, .bmi off⟩
  | .bpl off => ⟨_, rfl, .bpl off⟩
  | .bvc off => ⟨_, rfl, .bvc off⟩
  | .bvs off => ⟨_, rfl, .bvs off⟩
  | .pha => ⟨_, rfl, .pha⟩
  | .pla => ⟨_, rfl, .pla⟩
  | .php => ⟨_, rfl, .php⟩
  | .plp => ⟨_, rfl, .plp⟩
  | .jsr target => ⟨_, rfl, .jsr target⟩
  | .rts => ⟨_, rfl, .rts⟩
  | .rti => ⟨_, rfl, .rti⟩
  | .brk => ⟨_, rfl, .brk⟩
  | .jmpAbs target => ⟨_, rfl, .jmpAbs target⟩
  | .jmpInd p => ⟨_, rfl, .jmpInd p⟩
  | .clc => ⟨_, rfl, .clc⟩
  | .sec => ⟨_, rfl, .sec⟩
  | .cld => ⟨_, rfl, .cld⟩
  | .sed => ⟨_, rfl, .sed⟩
  | .cli => ⟨_, rfl, .cli⟩
  | .sei => ⟨_, rfl, .sei⟩
  | .clv => ⟨_, rfl, .clv⟩
  | .nop => ⟨_, rfl, .nop⟩
  | .tax => ⟨_, rfl, .tax⟩
  | .tay => ⟨_, rfl, .tay⟩
  | .txa => ⟨_, rfl, .txa⟩
  | .tya => ⟨_, rfl, .tya⟩
  | .tsx => ⟨_, rfl, .tsx⟩
  | .txs => ⟨_, rfl, .txs⟩

/-- `exec` answers one state: two next states of one instruction are equal. -/
theorem exec_next_unique (i : Instr) (s t u : State) (ht : exec i s = .next t) (hu : exec i s = .next u) : t = u := by
  rw [ht] at hu
  exact Host.Outcome.next.inj hu

/-- A next state of `exec` has one of the shapes. -/
theorem shape_of_exec (i : Instr) (s t : State) (h : exec i s = .next t) : ExecShape s i t := by
  obtain ⟨u, hu, hs⟩ := exec_shape i s
  rw [exec_next_unique i s t u h hu]
  exact hs

end Sys2Proof.Machine
end

