-- ==== Sys2Proof/Laws/Cycles.lean ====
section
/-! SUPPORT. The cost of a step: what a row's CYCLES gives the penalties Execute returns, and that the default CYCLES
gives each of them one cycle. -/

namespace Sys2Proof

/-- An assembled instruction has the mnemonic and the operand it was assembled from. -/
theorem assemble_eq_some (mn : Mnemonic) (o : Operand) (i : Instr) (h : assemble mn o = some i) :
    i.mnemonic = mn ∧ i.operand = o := by
  unfold assemble at h
  split at h <;> split at h <;> first | contradiction | (cases h; exact ⟨rfl, rfl⟩)

/-- The operand a format takes has that format (30_encoding.md R81). -/
theorem takeOperand_mode (m : Mode) (bs rest : List Byte) (o : Operand) (h : takeOperand m bs = some (o, rest)) :
    o.mode = m := by
  unfold takeOperand at h
  split at h <;> first | contradiction | (cases h; rfl)

/-- A decoded instruction has the mnemonic and format of its opcode's row (R80, R82). -/
theorem decode_row (ops : List OpRow) (op : Byte) (bs rest : List Byte) (row : OpRow) (i : Instr)
    (hr : rowOf ops op = some row) (h : decode ops (op :: bs) = .ok (i, rest)) :
    i.mnemonic = row.mnemonic ∧ i.mode = row.mode := by
  simp only [decode, hr] at h
  split at h
  · contradiction
  · rename_i o r ho
    split at h
    · contradiction
    · rename_i j hj
      cases h
      obtain ⟨hm, hop⟩ := assemble_eq_some _ _ _ hj
      exact ⟨hm, by rw [Instr.mode, hop, takeOperand_mode _ _ _ _ ho]⟩

namespace Machine

@[simp] theorem penaltyCycles_zero (p : Penalty) : penaltyCycles p 0 = 0 := rfl
@[simp] theorem penaltyCycles_one (p : Penalty) : penaltyCycles p 1 = p.first := rfl
@[simp] theorem penaltyCycles_two (p : Penalty) : penaltyCycles p 2 = p.first + p.second := rfl

/-- Every step of a mapped opcode costs at least its base cost (40_engine_and_addressing.md R107). -/
theorem base_le_stepCost (row : OpRow) (n : Nat) : row.base ≤ stepCost row n :=
  Nat.le_add_right _ _

/-- A penalty of one cycle each is the number of penalties returned (70_reset_and_hazards.md R290). -/
theorem penaltyCycles_eq_of_ones (p : Penalty) (n : Nat) (h1 : 1 ≤ n → p.first = 1) (h2 : 2 ≤ n → p.second = 1)
    (hn : n ≤ 2) : penaltyCycles p n = n := by
  interval_cases n
  · rfl
  · exact h1 (by decide)
  · simp [h1 (by decide), h2 (by decide)]

/-- A read pays at most one penalty, and only in `absx`, `absy` and `indy` (R292). -/
theorem State.readPenalty_le (s : State) (f : ReadForm) :
    s.readPenalty f ≤ if [Mode.absx, .absy, .indy].contains f.operand.mode then 1 else 0 := by
  rcases f with v | m
  · simp [State.readPenalty]
  · cases m <;> simp [State.readPenalty, indexed16, ReadForm.operand, Operand.mode, MemForm.mode] <;> split <;> simp

/-- A store pays at most one penalty, and only in `absx`, `absy` and `indy` (R293). -/
theorem State.storePenalty_le (s : State) (m : MemForm) :
    s.storePenalty m ≤ if [Mode.absx, .absy, .indy].contains m.mode then 1 else 0 := by
  cases m <;> simp [State.storePenalty, indexed16, MemForm.mode] <;> split <;> simp

/-- A branch pays at most two penalties (47_branch.md R190). -/
theorem State.branch_extra_le (s : State) (c : Bool) (off : Byte) : (s.branch c off).extra ≤ 2 := by
  unfold State.branch
  split
  · simp only [State.setExtra]
    split <;> decide
  · exact Nat.zero_le 2

/-- How many penalties an instruction of a mnemonic and a format can return: the entries `p`, `s` and `b` of R290's
table. -/
def mostPenalties (mn : Mnemonic) (m : Mode) : Nat :=
  if [Mnemonic.LDA, .LDX, .LDY, .ADC, .SBC, .AND, .ORA, .EOR, .CMP, .STA].contains mn
      && [Mode.absx, .absy, .indy].contains m then 1
  else if m = .rel then 2
  else 0

/-- What Execute returns is at most what R290's table has for the instruction. -/
theorem extra_le_mostPenalties (i : Instr) (s t : State) (h : exec i s = .next t) :
    t.extra ≤ mostPenalties i.mnemonic i.mode := by
  have read : ∀ (mn : Mnemonic) (f : ReadForm),
      [Mnemonic.LDA, .LDX, .LDY, .ADC, .SBC, .AND, .ORA, .EOR, .CMP, .STA].contains mn = true →
      s.readPenalty f ≤ mostPenalties mn f.operand.mode := by
    intro mn f hmn
    refine (s.readPenalty_le f).trans ?_
    simp only [mostPenalties, hmn, Bool.true_and]
    split
    · exact Nat.le_refl 1
    · exact Nat.zero_le _
  cases shape_of_exec i s t h with
  | lda _ f hm ho | ldx _ f hm ho | ldy _ f hm ho | adc _ f hm ho | sbc _ f hm ho | cmp _ f hm ho
  | and_ _ f hm ho | ora_ _ f hm ho | eor_ _ f hm ho =>
    rw [Instr.mode, hm, ho]
    exact read _ f (by decide)
  | sta _ m hm ho =>
    rw [Instr.mode, hm, ho]
    refine (s.storePenalty_le m).trans ?_
    simp only [mostPenalties, Operand.mode]
    split
    · simp_all
    · exact Nat.zero_le _
  | bcc off | bcs off | beq off | bne off | bmi off | bpl off | bvc off | bvs off => exact s.branch_extra_le _ off
  | asl _ f | lsr _ f | rol _ f | ror _ f => cases f <;> exact Nat.zero_le _
  | _ => exact Nat.zero_le _

/-- Every row of the default table gives one cycle to each penalty its instruction can return (R290). -/
theorem defaultOps_penalty :
    ∀ row ∈ Config.defaultOps,
      (1 ≤ mostPenalties row.mnemonic row.mode → row.penalty.first = 1)
        ∧ (2 ≤ mostPenalties row.mnemonic row.mode → row.penalty.second = 1)
        ∧ mostPenalties row.mnemonic row.mode ≤ 2 := by
  decide +kernel

/-- Under the default table the penalties of an instruction cost the value Execute returned, in cycles (R290). -/
theorem default_penaltyCycles (row : OpRow) (i : Instr) (s t : State) (hrow : row ∈ Config.defaultOps)
    (hm : i.mnemonic = row.mnemonic) (hmode : i.mode = row.mode) (h : exec i s = .next t) :
    penaltyCycles row.penalty t.extra = t.extra := by
  have le := extra_le_mostPenalties i s t h
  rw [hm, hmode] at le
  obtain ⟨h1, h2, h3⟩ := defaultOps_penalty row hrow
  exact penaltyCycles_eq_of_ones _ _ (fun k => h1 (k.trans le)) (fun k => h2 (k.trans le)) (le.trans h3)

end Machine

end Sys2Proof
end

