-- ==== Sys2Proof/Laws/Flags.lean ====
section
/-! SUPPORT. The flags of PS: a read after a write of a flag, and the flags each computation of Flags.lean leaves. -/

namespace Sys2Proof.Machine

theorem Flag.mask_getLsbD (f : Flag) (k : Nat) : f.mask.getLsbD k = decide (k = f.bit) := by
  by_cases hk : k < 8
  · interval_cases k <;> cases f <;> decide
  · have hb : f.bit < 8 := by cases f <;> decide
    rw [BitVec.getLsbD_of_ge _ _ (by omega)]
    simp
    omega

theorem Flag.bit_inj {f g : Flag} : f.bit = g.bit ↔ f = g := by
  cases f <;> cases g <;> decide

/-- A flag reads back as it was last written, and writing it changes no other flag (10_state.md R14, R15). -/
@[simp] theorem flagOf_setFlag (ps : Byte) (f g : Flag) (b : Bool) :
    flagOf (setFlag ps f b) g = if g = f then b else flagOf ps g := by
  have hg : g.bit < 8 := by cases g <;> decide
  unfold flagOf setFlag
  cases b
  · rw [if_neg (by decide), BitVec.getLsbD_and, BitVec.getLsbD_not, Flag.mask_getLsbD]
    by_cases h : g = f <;> simp [Flag.bit_inj, h, hg]
  · rw [if_pos rfl, BitVec.getLsbD_or, Flag.mask_getLsbD]
    by_cases h : g = f <;> simp [Flag.bit_inj, h]

/-- The flags after `SetZN(v)` (10_state.md R17). -/
@[simp] theorem flagOf_withZN (ps v : Byte) (g : Flag) :
    flagOf (withZN ps v) g
      = if g = .N then v.getLsbD 7 else if g = .Z then v == 0 else flagOf ps g := by
  simp [withZN]

/-- Two values of PS with equal flags are equal: the eight flags are the whole of PS (10_state.md R14). -/
theorem ps_ext {p q : Byte} (h : ∀ f, flagOf p f = flagOf q f) : p = q := by
  apply BitVec.eq_of_getLsbD_eq
  intro k hk
  have hC := h .C
  have hZ := h .Z
  have hI := h .I
  have hD := h .D
  have hB := h .B
  have hU := h .U
  have hV := h .V
  have hN := h .N
  simp only [flagOf, Flag.bit] at *
  interval_cases k <;> assumption

/-- The flags after `AddCore(m)` (42_arithmetic.md R140). -/
theorem flagOf_addFlags (ps a m : Byte) (g : Flag) :
    flagOf (addFlags ps a m) g
      = if g = .N then (addResult a m (flagOf ps .C)).getLsbD 7
        else if g = .Z then addResult a m (flagOf ps .C) == 0
        else if g = .V then addOverflow a m (addResult a m (flagOf ps .C))
        else if g = .C then addCarry a m (flagOf ps .C)
        else flagOf ps g := by
  simp [addFlags]

/-- The flags after `Compare(r, m)` (44_compare.md R160). -/
theorem flagOf_compareFlags (ps r m : Byte) (g : Flag) :
    flagOf (compareFlags ps r m) g
      = if g = .N then (r - m).getLsbD 7
        else if g = .Z then r == m
        else if g = .C then decide (m ≤ r)
        else flagOf ps g := by
  simp [compareFlags]

/-- The flags after BIT (43_logical.md R154). -/
theorem flagOf_bitFlags (ps a m : Byte) (g : Flag) :
    flagOf (bitFlags ps a m) g
      = if g = .Z then (a &&& m) == 0
        else if g = .V then m.getLsbD 6
        else if g = .N then m.getLsbD 7
        else flagOf ps g := by
  simp [bitFlags]

/-- Bit 7 of a byte, as a comparison of its value. -/
theorem getLsbD_seven (v : Byte) : v.getLsbD 7 = decide (128 ≤ v.toNat) := by
  simp only [BitVec.getLsbD, Nat.testBit, Nat.shiftRight_eq_div_pow]
  have := v.isLt
  have h : v.toNat / 128 < 2 := by omega
  interval_cases hq : v.toNat / 128
  · simp
    omega
  · simp
    omega

end Sys2Proof.Machine
end

