-- ==== Sys2Proof/Laws/Operands.lean ====
section
/-! SUPPORT. What resolving and reading an operand can do: only LOG and the draw counter change, and nothing at all
where no MMIO address is read. -/

namespace Sys2Proof.Machine

@[simp] theorem State.afterEa_a (s : State) (m : MemForm) : (s.afterEa m).a = s.a := by
  unfold State.afterEa; split <;> simp
@[simp] theorem State.afterEa_x (s : State) (m : MemForm) : (s.afterEa m).x = s.x := by
  unfold State.afterEa; split <;> simp
@[simp] theorem State.afterEa_y (s : State) (m : MemForm) : (s.afterEa m).y = s.y := by
  unfold State.afterEa; split <;> simp
@[simp] theorem State.afterEa_sp (s : State) (m : MemForm) : (s.afterEa m).sp = s.sp := by
  unfold State.afterEa; split <;> simp
@[simp] theorem State.afterEa_ps (s : State) (m : MemForm) : (s.afterEa m).ps = s.ps := by
  unfold State.afterEa; split <;> simp
@[simp] theorem State.afterEa_pc (s : State) (m : MemForm) : (s.afterEa m).pc = s.pc := by
  unfold State.afterEa; split <;> simp
@[simp] theorem State.afterEa_mem (s : State) (m : MemForm) : (s.afterEa m).mem = s.mem := by
  unfold State.afterEa; split <;> simp
@[simp] theorem State.afterEa_accessType (s : State) (m : MemForm) : (s.afterEa m).accessType = s.accessType := by
  unfold State.afterEa; split <;> simp
@[simp] theorem State.afterEa_budget (s : State) (m : MemForm) : (s.afterEa m).budget = s.budget := by
  unfold State.afterEa; split <;> simp
@[simp] theorem State.afterEa_total (s : State) (m : MemForm) : (s.afterEa m).total = s.total := by
  unfold State.afterEa; split <;> simp
@[simp] theorem State.afterEa_halted (s : State) (m : MemForm) : (s.afterEa m).halted = s.halted := by
  unfold State.afterEa; split <;> simp
@[simp] theorem State.afterEa_haltReason (s : State) (m : MemForm) : (s.afterEa m).haltReason = s.haltReason := by
  unfold State.afterEa; split <;> simp
@[simp] theorem State.afterEa_ready (s : State) (m : MemForm) : (s.afterEa m).ready = s.ready := by
  unfold State.afterEa; split <;> simp
@[simp] theorem State.afterEa_cfg (s : State) (m : MemForm) : (s.afterEa m).cfg = s.cfg := by
  unfold State.afterEa; split <;> simp
@[simp] theorem State.afterEa_extra (s : State) (m : MemForm) : (s.afterEa m).extra = s.extra := by
  unfold State.afterEa; split <;> simp
@[simp] theorem State.afterEa_started (s : State) (m : MemForm) : (s.afterEa m).started = s.started := by
  unfold State.afterEa; split <;> simp

@[simp] theorem State.afterCell_a (s : State) (m : MemForm) : (s.afterCell m).a = s.a := by
  simp [State.afterCell]
@[simp] theorem State.afterCell_x (s : State) (m : MemForm) : (s.afterCell m).x = s.x := by
  simp [State.afterCell]
@[simp] theorem State.afterCell_y (s : State) (m : MemForm) : (s.afterCell m).y = s.y := by
  simp [State.afterCell]
@[simp] theorem State.afterCell_sp (s : State) (m : MemForm) : (s.afterCell m).sp = s.sp := by
  simp [State.afterCell]
@[simp] theorem State.afterCell_ps (s : State) (m : MemForm) : (s.afterCell m).ps = s.ps := by
  simp [State.afterCell]
@[simp] theorem State.afterCell_pc (s : State) (m : MemForm) : (s.afterCell m).pc = s.pc := by
  simp [State.afterCell]
@[simp] theorem State.afterCell_mem (s : State) (m : MemForm) : (s.afterCell m).mem = s.mem := by
  simp [State.afterCell]
@[simp] theorem State.afterCell_accessType (s : State) (m : MemForm) : (s.afterCell m).accessType = s.accessType := by
  simp [State.afterCell]
@[simp] theorem State.afterCell_budget (s : State) (m : MemForm) : (s.afterCell m).budget = s.budget := by
  simp [State.afterCell]
@[simp] theorem State.afterCell_total (s : State) (m : MemForm) : (s.afterCell m).total = s.total := by
  simp [State.afterCell]
@[simp] theorem State.afterCell_halted (s : State) (m : MemForm) : (s.afterCell m).halted = s.halted := by
  simp [State.afterCell]
@[simp] theorem State.afterCell_haltReason (s : State) (m : MemForm) : (s.afterCell m).haltReason = s.haltReason := by
  simp [State.afterCell]
@[simp] theorem State.afterCell_ready (s : State) (m : MemForm) : (s.afterCell m).ready = s.ready := by
  simp [State.afterCell]
@[simp] theorem State.afterCell_cfg (s : State) (m : MemForm) : (s.afterCell m).cfg = s.cfg := by
  simp [State.afterCell]
@[simp] theorem State.afterCell_extra (s : State) (m : MemForm) : (s.afterCell m).extra = s.extra := by
  simp [State.afterCell]
@[simp] theorem State.afterCell_started (s : State) (m : MemForm) : (s.afterCell m).started = s.started := by
  simp [State.afterCell]

@[simp] theorem State.afterOperand_a (s : State) (f : ReadForm) : (s.afterOperand f).a = s.a := by
  cases f <;> simp [State.afterOperand]
@[simp] theorem State.afterOperand_x (s : State) (f : ReadForm) : (s.afterOperand f).x = s.x := by
  cases f <;> simp [State.afterOperand]
@[simp] theorem State.afterOperand_y (s : State) (f : ReadForm) : (s.afterOperand f).y = s.y := by
  cases f <;> simp [State.afterOperand]
@[simp] theorem State.afterOperand_sp (s : State) (f : ReadForm) : (s.afterOperand f).sp = s.sp := by
  cases f <;> simp [State.afterOperand]
@[simp] theorem State.afterOperand_ps (s : State) (f : ReadForm) : (s.afterOperand f).ps = s.ps := by
  cases f <;> simp [State.afterOperand]
@[simp] theorem State.afterOperand_pc (s : State) (f : ReadForm) : (s.afterOperand f).pc = s.pc := by
  cases f <;> simp [State.afterOperand]
@[simp] theorem State.afterOperand_mem (s : State) (f : ReadForm) : (s.afterOperand f).mem = s.mem := by
  cases f <;> simp [State.afterOperand]
@[simp] theorem State.afterOperand_accessType (s : State) (f : ReadForm) : (s.afterOperand f).accessType = s.accessType := by
  cases f <;> simp [State.afterOperand]
@[simp] theorem State.afterOperand_budget (s : State) (f : ReadForm) : (s.afterOperand f).budget = s.budget := by
  cases f <;> simp [State.afterOperand]
@[simp] theorem State.afterOperand_total (s : State) (f : ReadForm) : (s.afterOperand f).total = s.total := by
  cases f <;> simp [State.afterOperand]
@[simp] theorem State.afterOperand_halted (s : State) (f : ReadForm) : (s.afterOperand f).halted = s.halted := by
  cases f <;> simp [State.afterOperand]
@[simp] theorem State.afterOperand_haltReason (s : State) (f : ReadForm) : (s.afterOperand f).haltReason = s.haltReason := by
  cases f <;> simp [State.afterOperand]
@[simp] theorem State.afterOperand_ready (s : State) (f : ReadForm) : (s.afterOperand f).ready = s.ready := by
  cases f <;> simp [State.afterOperand]
@[simp] theorem State.afterOperand_cfg (s : State) (f : ReadForm) : (s.afterOperand f).cfg = s.cfg := by
  cases f <;> simp [State.afterOperand]
@[simp] theorem State.afterOperand_extra (s : State) (f : ReadForm) : (s.afterOperand f).extra = s.extra := by
  cases f <;> simp [State.afterOperand]
@[simp] theorem State.afterOperand_started (s : State) (f : ReadForm) : (s.afterOperand f).started = s.started := by
  cases f <;> simp [State.afterOperand]

@[simp] theorem State.afterIndirect_a (s : State) (p : Word) : (s.afterIndirect p).a = s.a := by
  simp [State.afterIndirect]
@[simp] theorem State.afterIndirect_x (s : State) (p : Word) : (s.afterIndirect p).x = s.x := by
  simp [State.afterIndirect]
@[simp] theorem State.afterIndirect_y (s : State) (p : Word) : (s.afterIndirect p).y = s.y := by
  simp [State.afterIndirect]
@[simp] theorem State.afterIndirect_sp (s : State) (p : Word) : (s.afterIndirect p).sp = s.sp := by
  simp [State.afterIndirect]
@[simp] theorem State.afterIndirect_ps (s : State) (p : Word) : (s.afterIndirect p).ps = s.ps := by
  simp [State.afterIndirect]
@[simp] theorem State.afterIndirect_pc (s : State) (p : Word) : (s.afterIndirect p).pc = s.pc := by
  simp [State.afterIndirect]
@[simp] theorem State.afterIndirect_mem (s : State) (p : Word) : (s.afterIndirect p).mem = s.mem := by
  simp [State.afterIndirect]
@[simp] theorem State.afterIndirect_accessType (s : State) (p : Word) : (s.afterIndirect p).accessType = s.accessType := by
  simp [State.afterIndirect]
@[simp] theorem State.afterIndirect_budget (s : State) (p : Word) : (s.afterIndirect p).budget = s.budget := by
  simp [State.afterIndirect]
@[simp] theorem State.afterIndirect_total (s : State) (p : Word) : (s.afterIndirect p).total = s.total := by
  simp [State.afterIndirect]
@[simp] theorem State.afterIndirect_halted (s : State) (p : Word) : (s.afterIndirect p).halted = s.halted := by
  simp [State.afterIndirect]
@[simp] theorem State.afterIndirect_haltReason (s : State) (p : Word) : (s.afterIndirect p).haltReason = s.haltReason := by
  simp [State.afterIndirect]
@[simp] theorem State.afterIndirect_ready (s : State) (p : Word) : (s.afterIndirect p).ready = s.ready := by
  simp [State.afterIndirect]
@[simp] theorem State.afterIndirect_cfg (s : State) (p : Word) : (s.afterIndirect p).cfg = s.cfg := by
  simp [State.afterIndirect]
@[simp] theorem State.afterIndirect_extra (s : State) (p : Word) : (s.afterIndirect p).extra = s.extra := by
  simp [State.afterIndirect]
@[simp] theorem State.afterIndirect_started (s : State) (p : Word) : (s.afterIndirect p).started = s.started := by
  simp [State.afterIndirect]

/-- Resolving an address changes LOG and the draw counter only (40_engine_and_addressing.md R113 to R121). -/
theorem State.afterEa_eq (s : State) (m : MemForm) :
    s.afterEa m = { s with log := (s.afterEa m).log, draws := (s.afterEa m).draws } := by
  ext1 <;> simp

/-- Reading a memory operand changes LOG and the draw counter only (R124). -/
theorem State.afterCell_eq (s : State) (m : MemForm) :
    s.afterCell m = { s with log := (s.afterCell m).log, draws := (s.afterCell m).draws } := by
  ext1 <;> simp

/-- Reading an operand changes LOG and the draw counter only (R124). -/
theorem State.afterOperand_eq (s : State) (f : ReadForm) :
    s.afterOperand f = { s with log := (s.afterOperand f).log, draws := (s.afterOperand f).draws } := by
  ext1 <;> simp

/-- The value of a page-0 address (40_engine_and_addressing.md R113). -/
theorem zeroPage_toNat (v : Byte) : (zeroPage v).toNat = v.toNat := by
  have := v.isLt
  simp [zeroPage]
  omega

/-- Two addresses lie on different pages (R123). -/
theorem pageDiffers_eq (a b : Word) : pageDiffers a b = decide (a.toNat / 256 ≠ b.toNat / 256) := by
  have h : highByte a = highByte b ↔ a.toNat / 256 = b.toNat / 256 := by
    rw [← BitVec.toNat_inj, highByte_toNat, highByte_toNat]
  by_cases e : a.toNat / 256 = b.toNat / 256 <;> simp [pageDiffers, h, e]

/-- The effective address does not depend on PS. -/
theorem State.ea_setPS (s : State) (p : Byte) (m : MemForm) : (s.setPS p).ea m = s.ea m := by
  cases m <;> simp [State.ea, State.eaBase, State.busPair_setPS]

/-- Resolving an address does not touch PS. -/
theorem State.afterEa_setPS (s : State) (p : Byte) (m : MemForm) :
    (s.setPS p).afterEa m = (s.afterEa m).setPS p := by
  cases m <;> simp [State.afterEa, State.pointerByte, State.afterPair_setPS]

/-- The value of a read operand does not depend on PS. -/
theorem State.operandByte_setPS (s : State) (p : Byte) (f : ReadForm) :
    (s.setPS p).operandByte f = s.operandByte f := by
  cases f <;> simp [State.operandByte, State.cellByte, State.ea_setPS, State.afterEa_setPS, State.busByte_setPS]

/-- Reading an operand does not touch PS. -/
theorem State.afterOperand_setPS (s : State) (p : Byte) (f : ReadForm) :
    (s.setPS p).afterOperand f = (s.afterOperand f).setPS p := by
  cases f <;> simp [State.afterOperand, State.afterCell, State.ea_setPS, State.afterEa_setPS, State.afterRead_setPS]

/-- The read penalty does not depend on PS. -/
theorem State.readPenalty_setPS (s : State) (p : Byte) (f : ReadForm) :
    (s.setPS p).readPenalty f = s.readPenalty f := by
  rcases f with _ | m
  · rfl
  · cases m <;> simp [State.readPenalty, State.crossed, State.ea, State.eaBase, State.busPair_setPS]

end Sys2Proof.Machine
end

