-- ==== Sys2Proof/Laws/Meanings.lean ====
section
/-! SUPPORT. What each shared meaning can do, as one record equation: the fields it writes, every other as before. -/

namespace Sys2Proof.Machine

/-- LDA writes A and PS and reads its operand (41_load_store.md R131). -/
theorem State.lda_eq (s : State) (f : ReadForm) :
    s.lda f
      = { s with
          a := s.operandByte f
          ps := withZN s.ps (s.operandByte f)
          extra := s.readPenalty f
          log := (s.afterOperand f).log
          draws := (s.afterOperand f).draws } := by
  ext1 <;> simp [State.lda]

/-- LDX writes X and PS and reads its operand (R132). -/
theorem State.ldx_eq (s : State) (f : ReadForm) :
    s.ldx f
      = { s with
          x := s.operandByte f
          ps := withZN s.ps (s.operandByte f)
          extra := s.readPenalty f
          log := (s.afterOperand f).log
          draws := (s.afterOperand f).draws } := by
  ext1 <;> simp [State.ldx]

/-- LDY writes Y and PS and reads its operand (R133). -/
theorem State.ldy_eq (s : State) (f : ReadForm) :
    s.ldy f
      = { s with
          y := s.operandByte f
          ps := withZN s.ps (s.operandByte f)
          extra := s.readPenalty f
          log := (s.afterOperand f).log
          draws := (s.afterOperand f).draws } := by
  ext1 <;> simp [State.ldy]

/-- A store resolves its address and makes one bus write (R130). -/
theorem State.storeByte_eq (s : State) (m : MemForm) (v : Byte) :
    s.storeByte m v
      = { s with
          mem := ((s.afterEa m).busWrite (s.ea m) v).mem
          log := ((s.afterEa m).busWrite (s.ea m) v).log
          draws := (s.afterEa m).draws } := by
  ext1 <;> simp [State.storeByte]

/-- The byte a store leaves at each address (R130, 20_memory.md R45). -/
theorem State.storeByte_read (s : State) (m : MemForm) (v : Byte) (b : Word) :
    (s.storeByte m v).mem.read b.toNat
      = if b = s.ea m ∧ regionOf s.cfg (s.ea m) = .ram then v else s.mem.read b.toNat := by
  simp [State.storeByte, State.busWrite_read]

/-- The adder writes A and PS only (42_arithmetic.md R140). -/
theorem State.addCore_eq (s : State) (m : Byte) :
    s.addCore m = { s with a := addResult s.a m (s.flag .C), ps := addFlags s.ps s.a m } := rfl

/-- ADC (R141). -/
theorem State.adc_eq (s : State) (f : ReadForm) :
    s.adc f
      = { s with
          a := addResult s.a (s.operandByte f) (s.flag .C)
          ps := addFlags s.ps s.a (s.operandByte f)
          extra := s.readPenalty f
          log := (s.afterOperand f).log
          draws := (s.afterOperand f).draws } := by
  ext1 <;> simp [State.adc, State.addCore, State.flag]

/-- SBC (R143). -/
theorem State.sbc_eq (s : State) (f : ReadForm) :
    s.sbc f
      = { s with
          a := addResult s.a (~~~(s.operandByte f)) (s.flag .C)
          ps := addFlags s.ps s.a (~~~(s.operandByte f))
          extra := s.readPenalty f
          log := (s.afterOperand f).log
          draws := (s.afterOperand f).draws } := by
  ext1 <;> simp [State.sbc, State.addCore, State.flag]

/-- AND, ORA and EOR write A and PS and read their operand (43_logical.md R150). -/
theorem State.logicResult_eq (s : State) (f : ReadForm) (v : Byte) :
    s.logicResult f v
      = { s with
          a := v
          ps := withZN s.ps v
          extra := s.readPenalty f
          log := (s.afterOperand f).log
          draws := (s.afterOperand f).draws } := by
  ext1 <;> simp [State.logicResult]

/-- BIT writes PS and reads its operand (R154). -/
theorem State.bit_eq (s : State) (f : ReadForm) :
    s.bit f
      = { s with
          ps := bitFlags s.ps s.a (s.operandByte f)
          extra := 0
          log := (s.afterOperand f).log
          draws := (s.afterOperand f).draws } := by
  ext1 <;> simp [State.bit]

/-- A compare writes PS and reads its operand (44_compare.md R160). -/
theorem State.compare_eq (s : State) (r : Byte) (f : ReadForm) :
    s.compare r f
      = { s with
          ps := compareFlags s.ps r (s.operandByte f)
          log := (s.afterOperand f).log
          draws := (s.afterOperand f).draws } := by
  ext1 <;> simp [State.compare]

/-- A shift of A writes A and PS (45_shift_rotate.md R170). -/
theorem State.shift_acc_eq (s : State) (step : Byte → Bool → Byte × Bool) :
    s.shift .acc step
      = { s with
          a := (step s.a (s.flag .C)).1
          ps := withZN (setFlag s.ps .C (step s.a (s.flag .C)).2) (step s.a (s.flag .C)).1
          extra := 0 } := rfl

/-- A shift of a cell reads it, writes it once and writes PS (R170). -/
theorem State.shift_mem_eq (s : State) (m : MemForm) (step : Byte → Bool → Byte × Bool) :
    s.shift (.mem m) step
      = { s with
          mem := ((s.afterCell m).busWrite (s.ea m) (step (s.cellByte m) (s.flag .C)).1).mem
          ps := withZN (setFlag s.ps .C (step (s.cellByte m) (s.flag .C)).2)
            (step (s.cellByte m) (s.flag .C)).1
          extra := 0
          log := ((s.afterCell m).busWrite (s.ea m) (step (s.cellByte m) (s.flag .C)).1).log
          draws := (s.afterCell m).draws } := by
  ext1 <;> simp [State.shift, State.shiftFlags]

/-- INC and DEC read a cell, write it once and write PS (46_inc_dec.md R180). -/
theorem State.bumpCell_eq (s : State) (m : MemForm) (d : Byte) :
    s.bumpCell m d
      = { s with
          mem := ((s.afterCell m).busWrite (s.ea m) (s.cellByte m + d)).mem
          ps := withZN s.ps (s.cellByte m + d)
          extra := 0
          log := ((s.afterCell m).busWrite (s.ea m) (s.cellByte m + d)).log
          draws := (s.afterCell m).draws } := by
  ext1 <;> simp [State.bumpCell]

/-- A branch writes PC and the penalty only (47_branch.md R190). -/
theorem State.branch_eq (s : State) (c : Bool) (off : Byte) :
    s.branch c off
      = { s with
          pc := if c then relTarget s.pc off else s.pc
          extra := if c then (if pageDiffers (relTarget s.pc off) s.pc then 2 else 1) else 0 } := by
  cases c <;> rfl

/-- Trap entry: the two pushes, I set, and PC from the vector, which is read after the pushes (48_stack_control.md
R210). -/
theorem State.enterTrap_eq (s saved : State) (pc0 : Word)
    (h : saved = (s.pushWord (pc0 + 2)).push (pushedStatus s.ps)) :
    s.enterTrap pc0
      = { s with
          sp := s.sp - 3
          mem := saved.mem
          ps := setFlag s.ps .I true
          pc := saved.busPair Config.breakVector (Config.breakVector + 1)
          log := (saved.afterPair Config.breakVector (Config.breakVector + 1)).log
          draws := (saved.afterPair Config.breakVector (Config.breakVector + 1)).draws } := by
  subst h
  unfold State.enterTrap State.putFlag
  simp only [State.afterPair_setPS, State.busPair_setPS]
  ext1 <;> simp [State.pushWord]
  bv_omega

/-- Return from the trap: PS, then PC, three pops (R209). -/
theorem State.returnFromTrap_eq (s : State) :
    s.returnFromTrap
      = { s with
          sp := s.sp + 3
          ps := s.popByte
          pc := s.afterPop.popWord
          log := s.afterPop.afterPop.afterPop.log
          draws := s.afterPop.afterPop.afterPop.draws } := by
  unfold State.returnFromTrap State.afterPopWord State.popWord State.popByte
  simp only [State.afterPop_setPS, State.busByte_setPS]
  ext1 <;> simp
  bv_omega

/-- The close of a step writes AT, BUDGET, TOTAL and the penalty only (40_engine_and_addressing.md R101, R107). -/
theorem State.closeStep_eq (s : State) (row : OpRow) :
    s.closeStep row
      = { s with
          accessType := Config.noAccess
          budget := s.budget - ((stepCost row s.extra : Nat) : Int)
          total := s.total + stepCost row s.extra
          extra := 0 } := rfl

/-- The stop at an unmapped opcode writes AT, BUDGET, TOTAL, LOG and the halt fields only (60_exceptions.md
R242). -/
theorem State.stopIllegal_eq (s : State) (op : Byte) (pc0 : Word) :
    s.stopIllegal op pc0
      = { s with
          accessType := Config.noAccess
          budget := s.budget - 1
          total := s.total + 1
          log := s.log ++ [.illegalOpcode op pc0]
          halted := true
          haltReason := .illegalOpcode op } := rfl

end Sys2Proof.Machine
end

