-- ==== Sys2Proof/Tests/Slice0.lean ====
section
/-! SUPPORT. Tests. A test named test_v<n> is vector V<n> of 95_test_vectors.md, one named test_w<n> its vector W<n>: start, bytes, end
and cycles are that row's. The other tests name their source. A test named witness_<statement> shows a state and operands
that meet the hypotheses of that statement of Certificates/Slice0/Obligations.lean. -/

namespace Sys2Proof.Tests

open Sys2Proof Sys2Proof.Machine

/-! ### Helpers -/

/-- Raw writes of (address, byte) pairs. -/
def pokes (s : State) : List (Nat × Nat) → State
  | [] => s
  | c :: cs => pokes (s.rawPoke (BitVec.ofNat 16 c.1) (BitVec.ofNat 8 c.2)) cs

/-- The standard start of 95_test_vectors.md section 0: after reset, `bytes` at `pc`, PC there, then `cells`. -/
def start (pc : Nat) (bytes : List Byte) (cells : List (Nat × Nat)) : State :=
  pokes { State.reset.pokeBytes (BitVec.ofNat 16 pc) bytes with pc := BitVec.ofNat 16 pc } cells

/-- What one step leaves, looked at through `f`; none where it answers no next state. -/
def after (s : State) (f : State → α) : Option α :=
  match step s with
  | .next t => some (f t)
  | .fault _ => none
  | .refused _ => none

/-- The outcome of a move, looked at through `f`; none where it answers no next state. -/
def look (o : Host.Outcome State Fault Refusal) (f : State → α) : Option α :=
  match o with
  | .next t => some (f t)
  | .fault _ => none
  | .refused _ => none

/-- The refusal a move answers, if it does. -/
def refusal (o : Host.Outcome State Fault Refusal) : Option Refusal :=
  match o with
  | .next _ => none
  | .fault _ => none
  | .refused r => some r

/-- One device over 0xD000 to 0xD0FF (95_test_vectors.md section 1, S8). -/
def oneDevice : List Device := [⟨"device", 0xD000, 0xD0FF⟩]

/-- `ACCESS_OF(0xAD)` and `ACCESS_OF(0x8D)` without the MMIO bit (95_test_vectors.md section 1, S8). -/
def opsWithoutMmio : List OpRow :=
  Config.defaultOps.map (fun r => if r.opcode = 0xAD ∨ r.opcode = 0x8D then { r with access := 0b011 } else r)

/-- The stack page as MMIO (95_test_vectors.md, V270). -/
def stackPageMmio : List RegionRange := ⟨0x0100, 0x01FF, .mmio⟩ :: Config.defaultRegions

/-! ### One step of each instruction (95_test_vectors.md) -/

theorem test_v1_lda :
    after (start 0x8000 [0xA9, 0x00] []) (fun t => (t.pc, t.ps, t.total))
      = some (0x8002, 0x02, 2) := by
  decide

theorem test_v25_lda :
    after { start 0x8000 [0xB5, 0xF0] [(0x0010, 0x80)] with x := 0x20 } (fun t => (t.a, t.pc, t.ps, t.total))
      = some (0x80, 0x8002, 0x80, 4) := by
  decide

theorem test_v28_lda :
    after { start 0x8000 [0xBD, 0xF0, 0x12] [(0x1310, 0x80)] with x := 0x20 } (fun t => (t.a, t.pc, t.ps, t.total))
      = some (0x80, 0x8003, 0x80, 5) := by
  decide

theorem test_v31_lda :
    after { start 0x8000 [0xA1, 0xFE] [(0x00FF, 0x34), (0x0000, 0x12), (0x1234, 0x80)] with x := 0x01 }
        (fun t => (t.a, t.pc, t.ps, t.total))
      = some (0x80, 0x8002, 0x80, 6) := by
  decide

theorem test_v33_lda :
    after { start 0x8000 [0xB1, 0x20] [(0x0020, 0xFF), (0x0021, 0x30), (0x3100, 0x80)] with y := 0x01 }
        (fun t => (t.a, t.pc, t.ps, t.total))
      = some (0x80, 0x8002, 0x80, 6) := by
  decide

theorem test_v37_ldx :
    after { start 0x8000 [0xB6, 0xF0] [(0x0010, 0x80)] with y := 0x20 } (fun t => (t.x, t.pc, t.ps, t.total))
      = some (0x80, 0x8002, 0x80, 4) := by
  decide

theorem test_v44_ldy :
    after { start 0x8000 [0xBC, 0xF0, 0x12] [(0x1310, 0x80)] with x := 0x20 } (fun t => (t.y, t.pc, t.ps, t.total))
      = some (0x80, 0x8003, 0x80, 5) := by
  decide

theorem test_v18_ldy :
    after (start 0x8000 [0xA0, 0x00] []) (fun t => (t.pc, t.ps, t.total))
      = some (0x8002, 0x02, 2) := by
  decide

theorem test_v81_sta :
    after { start 0x8000 [0x85, 0x44] [] with a := 0x55, ps := 0xC3 }
        (fun t => (t.pc, t.mem.read 0x0044, t.ps, t.total))
      = some (0x8002, 0x55, 0xC3, 3) := by
  decide

theorem test_v84_sta :
    after { start 0x8000 [0x9D, 0x00, 0x12] [] with a := 0x55, x := 0x20 }
        (fun t => (t.pc, t.mem.read 0x1220, t.ps, t.total))
      = some (0x8003, 0x55, 0x00, 5) := by
  decide

theorem test_v89_sta :
    after { start 0x8000 [0x91, 0x20] [(0x0020, 0x00), (0x0021, 0x03)] with a := 0x55, y := 0x10 }
        (fun t => (t.pc, t.mem.read 0x0310, t.ps, t.total))
      = some (0x8002, 0x55, 0x00, 6) := by
  decide

theorem test_v97_sta :
    after { start 0x8000 [0x8D, 0x00, 0xE0] [(0xE000, 0x99)] with a := 0x55 }
        (fun t => (t.pc, t.ps, t.total, t.mem.read 0xE000, t.log))
      = some (0x8003, 0x00, 4, 0x99, [.romWriteIgnored 0xE000 0x55]) := by
  decide

theorem test_v86_sta :
    after { start 0x8000 [0x9D, 0xF0, 0x12] [] with a := 0x55, x := 0x20, cfg := { Config.default with storePenalty := .never } }
        (fun t => (t.pc, t.mem.read 0x1310, t.ps, t.total))
      = some (0x8003, 0x55, 0x00, 4) := by
  decide

theorem test_v98_sta :
    after { start 0x8000 [0x8D, 0x00, 0xD8] [] with a := 0x55 } (fun t => (t.pc, t.ps, t.total, t.log))
      = some (0x8003, 0x00, 4, [.mmioUnmatched (.write 0x55) 0xD800]) := by
  decide

theorem test_v99_lda :
    after { start 0x8000 [0xAD, 0x00, 0xD8] [(0xD800, 0x77)] with a := 0x55 }
        (fun t => (t.a, t.pc, t.ps, t.total, t.mem.read 0xD800, t.log))
      = some (0x00, 0x8003, 0x02, 4, 0x77, [.mmioUnmatched .read 0xD800]) := by
  rfl

theorem test_v92_stx :
    after { start 0x8000 [0x96, 0xFF] [] with x := 0x07, y := 0x02 }
        (fun t => (t.pc, t.mem.read 0x0001, t.ps, t.total))
      = some (0x8002, 0x07, 0x00, 4) := by
  decide

theorem test_v95_sty :
    after { start 0x8000 [0x94, 0x10] [] with y := 0x09, x := 0x01 }
        (fun t => (t.pc, t.mem.read 0x0011, t.ps, t.total))
      = some (0x8002, 0x09, 0x00, 4) := by
  decide

theorem test_v71_adc :
    after { start 0x8000 [0x69, 0x01] [] with a := 0x7F } (fun t => (t.a, t.pc, t.ps, t.total))
      = some (0x80, 0x8002, 0xC0, 2) := by
  decide

theorem test_v131_adc :
    after { start 0x8000 [0x71, 0x20] [(0x0020, 0xFF), (0x0021, 0x30), (0x3100, 0x02)] with a := 0x01, y := 0x01 }
        (fun t => (t.a, t.pc, t.ps, t.total))
      = some (0x03, 0x8002, 0x00, 6) := by
  decide

theorem test_v124_adc :
    after { start 0x8000 [0x69, 0x05] [] with a := 0x09, ps := 0x08 } (fun t => (t.a, t.pc, t.ps, t.total))
      = some (0x0E, 0x8002, 0x08, 2) := by
  decide

theorem test_v116_sbc :
    after { start 0x8000 [0xE9, 0x01] [] with a := 0x80, ps := 0x01 } (fun t => (t.a, t.pc, t.ps, t.total))
      = some (0x7F, 0x8002, 0x41, 2) := by
  decide

theorem test_v125_sbc :
    after { start 0x8000 [0xE9, 0x01] [] with a := 0x10, ps := 0x09 } (fun t => (t.a, t.pc, t.ps, t.total))
      = some (0x0F, 0x8002, 0x09, 2) := by
  decide

theorem test_v133_sbc :
    after { start 0x8000 [0xFD, 0x00, 0x12] [(0x1220, 0x02)] with a := 0x05, ps := 0x01, x := 0x20 }
        (fun t => (t.a, t.pc, t.ps, t.total))
      = some (0x03, 0x8003, 0x01, 4) := by
  decide

theorem test_v137_and :
    after { start 0x8000 [0x35, 0x40] [(0x0044, 0x81)] with a := 0xFF, x := 0x04 }
        (fun t => (t.a, t.pc, t.ps, t.total))
      = some (0x81, 0x8002, 0x80, 4) := by
  decide

theorem test_v140_ora :
    after { start 0x8000 [0x0D, 0x34, 0x12] [(0x1234, 0x40)] with a := 0x01 } (fun t => (t.a, t.pc, t.ps, t.total))
      = some (0x41, 0x8003, 0x00, 4) := by
  decide

theorem test_v143_eor :
    after { start 0x8000 [0x51, 0x20] [(0x0020, 0x00), (0x0021, 0x30), (0x3002, 0xF0)] with a := 0x0F, y := 0x02 }
        (fun t => (t.a, t.pc, t.ps, t.total))
      = some (0xFF, 0x8002, 0x80, 5) := by
  decide

theorem test_v145_bit :
    after { start 0x8000 [0x24, 0x40] [(0x0040, 0xC0)] with a := 0x3F, ps := 0x01 } (fun t => (t.pc, t.ps, t.total))
      = some (0x8002, 0xC3, 3) := by
  decide

theorem test_v151_cmp :
    after { start 0x8000 [0xC9, 0x01] [] with a := 0x80, ps := 0x40 } (fun t => (t.pc, t.ps, t.total))
      = some (0x8002, 0x41, 2) := by
  decide

theorem test_v158_cmp :
    after { start 0x8000 [0xDD, 0xF0, 0x12] [(0x1310, 0x05)] with a := 0x05, x := 0x20 }
        (fun t => (t.pc, t.ps, t.total))
      = some (0x8003, 0x03, 5) := by
  decide

theorem test_v161_cpx :
    after { start 0x8000 [0xEC, 0x34, 0x12] [(0x1234, 0x01)] with x := 0xFF } (fun t => (t.pc, t.ps, t.total))
      = some (0x8003, 0x81, 4) := by
  decide

theorem test_v162_cpy :
    after { start 0x8000 [0xC0, 0x01] [] with y := 0x00 } (fun t => (t.pc, t.ps, t.total))
      = some (0x8002, 0x80, 2) := by
  decide

theorem test_v167_asl :
    after { start 0x8000 [0x0A] [] with a := 0xFF, ps := 0x01 } (fun t => (t.a, t.pc, t.ps, t.total))
      = some (0xFE, 0x8001, 0x81, 2) := by
  decide

theorem test_v169_asl :
    after { start 0x8000 [0x1E, 0xF0, 0x12] [(0x1310, 0x01)] with x := 0x20 }
        (fun t => (t.pc, t.mem.read 0x1310, t.ps, t.total))
      = some (0x8003, 0x02, 0x00, 7) := by
  decide

theorem test_v184_asl :
    after (start 0x8000 [0x0E, 0x00, 0xE0] [(0xE000, 0x81)]) (fun t => (t.pc, t.ps, t.total, t.log))
      = some (0x8003, 0x01, 6, [.romWriteIgnored 0xE000 0x02]) := by
  decide

theorem test_v171_lsr :
    after { start 0x8000 [0x4A] [] with a := 0xFF, ps := 0x80 } (fun t => (t.a, t.pc, t.ps, t.total))
      = some (0x7F, 0x8001, 0x01, 2) := by
  decide

theorem test_v173_lsr :
    after { start 0x8000 [0x4E, 0x34, 0x12] [(0x1234, 0x02)] with a := 0xFF }
        (fun t => (t.pc, t.mem.read 0x1234, t.ps, t.total))
      = some (0x8003, 0x01, 0x00, 6) := by
  decide

theorem test_v176_rol :
    after { start 0x8000 [0x2A] [] with a := 0x80, ps := 0x01 } (fun t => (t.a, t.pc, t.ps, t.total))
      = some (0x01, 0x8001, 0x01, 2) := by
  decide

theorem test_v178_rol :
    after { start 0x8000 [0x36, 0x10] [(0x0011, 0xC0)] with x := 0x01, ps := 0x00 }
        (fun t => (t.pc, t.mem.read 0x0011, t.ps, t.total))
      = some (0x8002, 0x80, 0x81, 6) := by
  decide

theorem test_v181_ror :
    after { start 0x8000 [0x6A] [] with a := 0x01, ps := 0x01 } (fun t => (t.a, t.pc, t.ps, t.total))
      = some (0x80, 0x8001, 0x81, 2) := by
  decide

theorem test_v183_ror :
    after { start 0x8000 [0x7E, 0x00, 0x12] [(0x1220, 0x81)] with x := 0x20, ps := 0x00 }
        (fun t => (t.pc, t.mem.read 0x1220, t.ps, t.total))
      = some (0x8003, 0x40, 0x01, 7) := by
  decide

theorem test_v185_inc :
    after { start 0x8000 [0xE6, 0x20] [(0x0020, 0xFF)] with ps := 0x41 }
        (fun t => (t.pc, t.mem.read 0x0020, t.ps, t.total))
      = some (0x8002, 0x00, 0x43, 5) := by
  decide

theorem test_v189_inc :
    after { start 0x8000 [0xFE, 0xF0, 0x12] [(0x1310, 0xFE)] with x := 0x20 }
        (fun t => (t.pc, t.mem.read 0x1310, t.ps, t.total))
      = some (0x8003, 0xFF, 0x80, 7) := by
  decide

theorem test_v190_dec :
    after (start 0x8000 [0xC6, 0x20] [(0x0020, 0x00)]) (fun t => (t.pc, t.mem.read 0x0020, t.ps, t.total))
      = some (0x8002, 0xFF, 0x80, 5) := by
  decide

theorem test_v193_dec :
    after (start 0x8000 [0xCE, 0x00, 0x03] [(0x0300, 0x01)]) (fun t => (t.pc, t.mem.read 0x0300, t.ps, t.total))
      = some (0x8003, 0x00, 0x02, 6) := by
  decide

theorem test_v195_inx :
    after { start 0x8000 [0xE8] [] with x := 0xFF, ps := 0x01 } (fun t => (t.x, t.pc, t.ps, t.total))
      = some (0x00, 0x8001, 0x03, 2) := by
  decide

theorem test_v198_iny :
    after { start 0x8000 [0xC8] [] with y := 0xFF } (fun t => (t.y, t.pc, t.ps, t.total))
      = some (0x00, 0x8001, 0x02, 2) := by
  decide

theorem test_v199_dex :
    after { start 0x8000 [0xCA] [] with x := 0x00 } (fun t => (t.x, t.pc, t.ps, t.total))
      = some (0xFF, 0x8001, 0x80, 2) := by
  decide

theorem test_v201_dey :
    after { start 0x8000 [0x88] [] with y := 0x00 } (fun t => (t.y, t.pc, t.ps, t.total))
      = some (0xFF, 0x8001, 0x80, 2) := by
  decide

theorem test_v203_bcc :
    after { start 0x8000 [0x90, 0x04] [] with ps := 0x00 } (fun t => (t.pc, t.ps, t.total))
      = some (0x8006, 0x00, 3) := by
  decide

theorem test_v205_bcs :
    after { start 0x8000 [0xB0, 0x04] [] with ps := 0x00 } (fun t => (t.pc, t.ps, t.total))
      = some (0x8002, 0x00, 2) := by
  decide

theorem test_v208_beq :
    after { start 0x8000 [0xF0, 0x04] [] with ps := 0x02 } (fun t => (t.pc, t.ps, t.total))
      = some (0x8006, 0x02, 3) := by
  decide

theorem test_v222_bne :
    after (start 0x8000 [0xD0, 0x80] []) (fun t => (t.pc, t.ps, t.total))
      = some (0x7F82, 0x00, 4) := by
  decide

theorem test_v225_bne :
    after (start 0xFFFE [0xD0, 0x10] [(0xFFFE, 0xD0), (0xFFFF, 0x10)]) (fun t => (t.pc, t.ps, t.total))
      = some (0x0010, 0x00, 3) := by
  decide

theorem test_v212_bmi :
    after { start 0x8000 [0x30, 0x04] [] with ps := 0x80 } (fun t => (t.pc, t.ps, t.total))
      = some (0x8006, 0x80, 3) := by
  decide

theorem test_v214_bpl :
    after { start 0x8000 [0x10, 0x04] [] with ps := 0x80 } (fun t => (t.pc, t.ps, t.total))
      = some (0x8002, 0x80, 2) := by
  decide

theorem test_v215_bvc :
    after { start 0x8000 [0x50, 0x04] [] with ps := 0x00 } (fun t => (t.pc, t.ps, t.total))
      = some (0x8006, 0x00, 3) := by
  decide

theorem test_v218_bvs :
    after { start 0x8000 [0x70, 0x04] [] with ps := 0x40 } (fun t => (t.pc, t.ps, t.total))
      = some (0x8006, 0x40, 3) := by
  decide

theorem test_v227_pha :
    after { start 0x8000 [0x48] [] with a := 0x42, sp := 0x00 }
        (fun t => (t.sp, t.pc, t.mem.read 0x0100, t.ps, t.total))
      = some (0xFF, 0x8001, 0x42, 0x00, 3) := by
  decide

theorem test_v228_pla :
    after { start 0x8000 [0x68] [(0x0100, 0x80)] with sp := 0xFF } (fun t => (t.a, t.sp, t.pc, t.ps, t.total))
      = some (0x80, 0x00, 0x8001, 0x80, 4) := by
  decide

theorem test_v229_php :
    after { start 0x8000 [0x08] [] with ps := 0x81 } (fun t => (t.sp, t.pc, t.mem.read 0x01FD, t.ps, t.total))
      = some (0xFC, 0x8001, 0x91, 0x81, 3) := by
  decide

theorem test_v233_plp :
    after { start 0x8000 [0x28] [(0x01FD, 0x30)] with sp := 0xFC } (fun t => (t.sp, t.pc, t.ps, t.total))
      = some (0xFD, 0x8001, 0x30, 4) := by
  decide

theorem test_v67_jsr :
    after (start 0x8000 [0x20, 0x42, 0x42] [])
        (fun t => (t.sp, t.pc, t.mem.read 0x01FC, t.mem.read 0x01FD, t.ps, t.total))
      = some (0xFB, 0x4242, 0x02, 0x80, 0x00, 6) := by
  decide

theorem test_v236_jsr :
    after { start 0x8000 [0x20, 0x00, 0x90] [] with sp := 0x00 }
        (fun t => (t.sp, t.pc, t.mem.read 0x0100, t.mem.read 0x01FF, t.ps, t.total))
      = some (0xFE, 0x9000, 0x80, 0x02, 0x00, 6) := by
  decide

theorem test_v68_rts :
    after { start 0x4242 [0x60] [(0x01FD, 0x80), (0x01FC, 0x02)] with sp := 0xFB }
        (fun t => (t.sp, t.pc, t.ps, t.total))
      = some (0xFD, 0x8003, 0x00, 6) := by
  decide

theorem test_v237_rts :
    after { start 0x8000 [0x60] [(0x01FC, 0xFF), (0x01FD, 0xFF)] with sp := 0xFB }
        (fun t => (t.sp, t.pc, t.ps, t.total))
      = some (0xFD, 0x0000, 0x00, 6) := by
  decide

theorem test_v239_rti :
    after { start 0x8000 [0x40] [(0x01FB, 0xC1), (0x01FC, 0xFF), (0x01FD, 0xFF)] with sp := 0xFA, ps := 0x04 }
        (fun t => (t.sp, t.pc, t.ps, t.total))
      = some (0xFD, 0xFFFF, 0xC1, 6) := by
  decide

theorem test_v76_brk :
    after { start 0x9000 [0x00] [(0xFFFE, 0x00), (0xFFFF, 0xA0)] with ps := 0xC1 }
        (fun t => (t.sp, t.pc, t.mem.read 0x01FB, t.mem.read 0x01FC, t.mem.read 0x01FD, t.ps, t.total, t.haltReason, t.log))
      = some (0xFA, 0xA000, 0xD1, 0x02, 0x90, 0xC5, 7, .brk, [.brkHalt 0x9000]) := by
  rfl

theorem test_v242_brk :
    after { start 0x8000 [0x00] [(0xFFFE, 0x00), (0xFFFF, 0x90)] with sp := 0x01 }
        (fun t => (t.sp, t.pc, t.mem.read 0x0100, t.mem.read 0x0101, t.mem.read 0x01FF, t.ps, t.total, t.haltReason, t.log))
      = some (0xFE, 0x9000, 0x02, 0x80, 0x10, 0x04, 7, .brk, [.brkHalt 0x8000]) := by
  rfl

theorem test_v243_jmp :
    after (start 0x8000 [0x4C, 0x00, 0x90] []) (fun t => (t.pc, t.ps, t.total))
      = some (0x9000, 0x00, 3) := by
  decide

theorem test_v245_jmp :
    after (start 0x8000 [0x6C, 0xFF, 0x30] [(0x30FF, 0x80), (0x3000, 0x50), (0x3100, 0x40)])
        (fun t => (t.pc, t.ps, t.total))
      = some (0x5080, 0x00, 5) := by
  decide

theorem test_v247_clc :
    after { start 0x8000 [0x18] [] with ps := 0xFF } (fun t => (t.pc, t.ps, t.total))
      = some (0x8001, 0xFE, 2) := by
  decide

theorem test_v248_sec :
    after { start 0x8000 [0x38] [] with ps := 0x00 } (fun t => (t.pc, t.ps, t.total))
      = some (0x8001, 0x01, 2) := by
  decide

theorem test_v249_cld :
    after { start 0x8000 [0xD8] [] with ps := 0xFF } (fun t => (t.pc, t.ps, t.total))
      = some (0x8001, 0xF7, 2) := by
  decide

theorem test_v250_sed :
    after { start 0x8000 [0xF8] [] with ps := 0x00 } (fun t => (t.pc, t.ps, t.total))
      = some (0x8001, 0x08, 2) := by
  decide

theorem test_v251_cli :
    after { start 0x8000 [0x58] [] with ps := 0xFF } (fun t => (t.pc, t.ps, t.total))
      = some (0x8001, 0xFB, 2) := by
  decide

theorem test_v252_sei :
    after { start 0x8000 [0x78] [] with ps := 0x00 } (fun t => (t.pc, t.ps, t.total))
      = some (0x8001, 0x04, 2) := by
  decide

theorem test_v253_clv :
    after { start 0x8000 [0xB8] [] with ps := 0xFF } (fun t => (t.pc, t.ps, t.total))
      = some (0x8001, 0xBF, 2) := by
  decide

theorem test_v254_nop :
    after { start 0x8000 [0xEA] [] with a := 0x12, x := 0x34, y := 0x56, ps := 0xA5 }
        (fun t => (t.pc, t.ps, t.total))
      = some (0x8001, 0xA5, 2) := by
  decide

theorem test_v255_tax :
    after { start 0x8000 [0xAA] [] with a := 0x80 } (fun t => (t.x, t.pc, t.ps, t.total))
      = some (0x80, 0x8001, 0x80, 2) := by
  decide

theorem test_v256_tay :
    after { start 0x8000 [0xA8] [] with a := 0x00, ps := 0x80 } (fun t => (t.pc, t.ps, t.total))
      = some (0x8001, 0x02, 2) := by
  decide

theorem test_v257_txa :
    after { start 0x8000 [0x8A] [] with x := 0x10, ps := 0x82 } (fun t => (t.a, t.pc, t.ps, t.total))
      = some (0x10, 0x8001, 0x00, 2) := by
  decide

theorem test_v258_tya :
    after { start 0x8000 [0x98] [] with y := 0xFF } (fun t => (t.a, t.pc, t.ps, t.total))
      = some (0xFF, 0x8001, 0x80, 2) := by
  decide

theorem test_v259_tsx :
    after (start 0x8000 [0xBA] []) (fun t => (t.x, t.pc, t.ps, t.total))
      = some (0xFD, 0x8001, 0x80, 2) := by
  decide

theorem test_v262_txs :
    after { start 0x8000 [0x9A] [] with x := 0x00, ps := 0x80 } (fun t => (t.sp, t.pc, t.ps, t.total))
      = some (0x00, 0x8001, 0x80, 2) := by
  decide

theorem test_v263_unmapped :
    after { start 0x8000 [0x02] [] with a := 0x11, ps := 0x41 }
        (fun t => (t.pc, t.ps, t.total, t.haltReason, t.log))
      = some (0x8001, 0x41, 1, .illegalOpcode 0x02, [.illegalOpcode 0x02 0x8000]) := by
  decide

theorem test_v267_fetch :
    after (start 0xD000 [] []) (fun t => (t.pc, t.ps, t.total, t.haltReason, t.log))
      = some (0xD001, 0x00, 1, .illegalOpcode 0xFF, [.mmioPermissionDenied .read 0xD000, .illegalOpcode 0xFF 0xD000]) := by
  decide

theorem test_v268_lda :
    after (start 0xFFFF [0xAD] [(0x0000, 0x34), (0x0001, 0x12), (0x1234, 0x77), (0xFFFF, 0xAD)])
        (fun t => (t.a, t.pc, t.ps, t.total))
      = some (0x77, 0x0002, 0x00, 4) := by
  decide

theorem test_v269_lda :
    after { start 0x8000 [0xBD, 0xF0, 0xFF] [(0x0010, 0x66)] with x := 0x20 } (fun t => (t.a, t.pc, t.ps, t.total))
      = some (0x66, 0x8003, 0x00, 5) := by
  decide

theorem test_v270_pha :
    after { start 0x8000 [0x48] [] with a := 0x42, cfg := { Config.default with regions := stackPageMmio } }
        (fun t => (t.sp, t.pc, t.ps, t.total, t.log))
      = some (0xFC, 0x8001, 0x00, 3, [.mmioPermissionDenied (.write 0x42) 0x01FD]) := by
  decide

theorem test_v77_lda :
    after { start 0x8000 [0xAD, 0x10, 0xD0] [] with cfg := { Config.default with devices := oneDevice, ops := opsWithoutMmio } }
        (fun t => (t.a, t.pc, t.ps, t.total, t.log))
      = some (0xFF, 0x8003, 0x80, 4, [.mmioPermissionDenied .read 0xD010]) := by
  decide

theorem test_v78_sta :
    after { start 0x8000 [0x8D, 0x10, 0xD0] [] with a := 0x77, cfg := { Config.default with devices := oneDevice, ops := opsWithoutMmio } }
        (fun t => (t.pc, t.ps, t.total, t.log))
      = some (0x8003, 0x00, 4, [.mmioPermissionDenied (.write 0x77) 0xD010]) := by
  decide

/-- The byte drawn is the free value of the first draw. -/
theorem test_v79_lda :
    after { start 0x8000 [0xAD, 0x10, 0xD0] [] with cfg := { Config.default with devices := oneDevice } }
        (fun t => (t.a, t.pc, t.draws, t.log))
      = some (Config.deviceByte 0 0 0xD010, 0x8003, 1, [.deviceRead 0 0xD010 (Config.deviceByte 0 0 0xD010)]) := by
  rfl

theorem test_v80_sta :
    after { start 0x8000 [0x8D, 0x10, 0xD0] [] with a := 0x77, cfg := { Config.default with devices := oneDevice } }
        (fun t => (t.pc, t.ps, t.total, t.log))
      = some (0x8003, 0x00, 4, [.deviceWrite 0 0xD010 0x77]) := by
  decide

/-! ### Reset and the host's moves (95_test_vectors.md, W1 to W8 and S9) -/

theorem test_w1_reset_after_power_on : (State.powerOn Config.default).applyReset = State.reset := rfl

theorem test_w2_empty_memory_runs_brk :
    after State.reset (fun t => (t.mem.read 0x01FD, t.mem.read 0x01FC, t.mem.read 0x01FB, t.sp, t.ps, t.pc, t.haltReason, t.total, t.log))
      = some (0x00, 0x02, 0x10, 0xFA, 0x04, 0x0000, .brk, 7, [.brkHalt 0x0000]) := by
  rfl

theorem test_w3_halted_step : after { State.reset with halted := true, haltReason := .brk } (fun t => (t.pc, t.total, t.halted)) = some (0x0000, 0, true) := by
  decide

theorem test_w4_reset_keeps_log_and_total :
    (fun t : State => (t.halted, t.total, t.log)) ({ State.reset with total := 7, log := [.brkHalt 0x0000], halted := true }.applyReset)
      = (false, 7, [.brkHalt 0x0000]) := by
  decide

theorem test_w5_step_before_reset : refusal (step (State.powerOn Config.default)) = some .notReady := rfl

theorem test_w6_vector_into_mmio :
    after ((State.powerOn Config.default).rawPoke 0xFFFD 0xD0).applyReset (fun t => (t.pc, t.haltReason, t.total, t.log))
      = some (0xD001, .illegalOpcode 0xFF, 1, [.mmioPermissionDenied .read 0xD000, .illegalOpcode 0xFF 0xD000]) := by
  decide

theorem test_w7_run_overshoots :
    look (run 3 State.reset) (fun t => (t.budget, t.total, t.halted)) = some (-4, 7, true) := by
  decide

theorem test_w8_run_zero : look (run 0 State.reset) (fun t => (t.pc, t.total, t.halted)) = some (0x0000, 0, false) := by
  decide

/-- S9: `poke(0xFFFC, 0x34); poke(0xFFFD, 0x12); reset()`. -/
theorem test_s9_reset_vector :
    (fun t : State => (t.a, t.x, t.y, t.sp, t.ps, t.pc, t.halted, t.log)) (pokes (State.powerOn Config.default) [(0xFFFC, 0x34), (0xFFFD, 0x12)]).applyReset
      = (0x00, 0x00, 0x00, 0xFD, 0x00, 0x1234, false, []) := by
  rfl

/-- 10_state.md R25: poke writes a ROM and an MMIO address alike, and peek reads them back. -/
theorem test_poke_ignores_regions :
    look (poke 0xE000 0x99 State.reset) (fun t => (t.peek 0xE000, t.log)) = some (0x99, [])
      ∧ look (poke 0xD000 0x77 State.reset) (fun t => (t.peek 0xD000, t.log)) = some (0x77, []) := by
  decide

/-- 93_implementation_defined.md U12. -/
theorem test_poke_after_start : refusal (poke 0x0200 0x01 { State.reset with started := true }) = some .pokeAfterStart := rfl

/-- 70_reset_and_hazards.md R275: configuration comes before the first reset. -/
theorem test_register_after_reset : refusal (registerDevice ⟨"late", 0xD000, 0xD000⟩ State.reset) = some .configureAfterReset := rfl

/-- 00_scope.md R4, 20_memory.md R54: a 64th device is registered, a 65th is refused. -/
theorem test_register_limit :
    (look (registerDevice ⟨"d", 0xD000, 0xD000⟩ (State.powerOn { Config.default with ops := [], devices := List.replicate 63 ⟨"d", 0xD000, 0xD000⟩ })) (fun t => t.cfg.devices.length) = some 64)
      ∧ refusal (registerDevice ⟨"d", 0xD000, 0xD000⟩ (State.powerOn { Config.default with ops := [], devices := List.replicate 64 ⟨"d", 0xD000, 0xD000⟩ })) = some .badConfiguration := by
  decide

/-! ### WellFormed: each check refuses an ill-formed term -/

/-- Every instruction is well formed (30_encoding.md R86, R89); the default configuration is (00_scope.md R4). -/
theorem test_wellformed_default : Config.default.wellFormed = true ∧ (Instr.ldaImm 0xFF).wellFormed = true := by
  decide +kernel

/-- 20_memory.md R54: a range with `lo > hi`. -/
theorem test_illformed_device : Device.wellFormed ⟨"d", 0xD001, 0xD000⟩ = false := by decide

/-- A configuration with that device is refused (93_implementation_defined.md U9). -/
theorem test_illformed_device_config :
    refusal (configure { Config.default with devices := [⟨"d", 0xD001, 0xD000⟩] } (State.powerOn Config.default)) = some .badConfiguration := by
  decide

/-- 00_scope.md R4: more than 64 devices. -/
theorem test_illformed_device_count :
    Config.wellFormed { Config.default with ops := [], devices := List.replicate 65 ⟨"d", 0xD000, 0xD000⟩ } = false := by
  decide

/-- 30_encoding.md R80: two rows for one opcode byte. -/
theorem test_illformed_duplicate_row :
    opcodesDistinct [⟨0xEA, .NOP, .imp, 0b011, 2, ⟨0, 0⟩⟩, ⟨0xEA, .CLC, .imp, 0b011, 2, ⟨0, 0⟩⟩] = false := by decide

/-- 30_encoding.md R86: STA has no immediate form. -/
theorem test_illformed_row_form : OpRow.wellFormed ⟨0x89, .STA, .imm, 0b011, 2, ⟨0, 0⟩⟩ = false := by decide

/-- 70_reset_and_hazards.md R291: an instruction costs at least one cycle. -/
theorem test_illformed_row_base : OpRow.wellFormed ⟨0xEA, .NOP, .imp, 0b011, 0, ⟨0, 0⟩⟩ = false := by decide

/-- A row whose form does not exist stops the step by name. -/
theorem test_illformed_row_refused :
    refusal (step { start 0x8000 [0x89, 0x01] [] with cfg := { Config.default with ops := [⟨0x89, .STA, .imm, 0b011, 2, ⟨0, 0⟩⟩] } }) = some .badConfiguration := by
  decide

/-! ### CYCLES is a parameter, base cost and penalties (00_scope.md R4) -/

/-- A CYCLES that prices every penalty of an opcode anew. -/
def opsRepriced : List OpRow :=
  Config.defaultOps.map (fun r => { r with penalty := ⟨3, 10⟩ })

/-- The vectors V33 (a read that crosses), V222 (a branch to another page) and V86 (STA absx, here with the default
STORE_INDEXED_PENALTY) under that CYCLES: base 5 plus 3, 2 plus 3 plus 10, 4 plus 3 (40_engine_and_addressing.md R107). -/
theorem test_configured_penalties :
    after { start 0x8000 [0xB1, 0x20] [(0x0020, 0xFF), (0x0021, 0x30)] with y := 0x01, cfg := { Config.default with ops := opsRepriced } }
        (fun t => t.total) = some 8
      ∧ after { start 0x8000 [0xD0, 0x80] [] with cfg := { Config.default with ops := opsRepriced } } (fun t => t.total) = some 15
      ∧ after { start 0x8000 [0x9D, 0xF0, 0x12] [] with x := 0x20, cfg := { Config.default with ops := opsRepriced } }
        (fun t => t.total) = some 7 := by
  decide +kernel

/-- An instruction that returns no penalty costs its base alone whatever CYCLES gives: ASL absx, whose index crosses a page
(70_reset_and_hazards.md R292), and a branch not taken (47_branch.md R190). -/
theorem test_no_penalty_returned :
    after { start 0x8000 [0x1E, 0xF0, 0x12] [] with x := 0x20, cfg := { Config.default with ops := opsRepriced } }
        (fun t => t.total) = some 7
      ∧ after { start 0x8000 [0xF0, 0x80] [] with cfg := { Config.default with ops := opsRepriced } } (fun t => t.total) = some 2 := by
  decide +kernel

/-! ### Memory keeps its canonical form -/

/-- Out-of-order writes are listed by rising address; writing 0x00 removes the entry (10_state.md R24). -/
theorem test_memory_canonical :
    (pokes State.reset [(0x20, 1), (0x10, 2), (0x30, 3), (0x20, 0)]).mem = [(0x10, 2), (0x30, 3)] := by
  decide

/-! ### Decoding: the encoding column of spec/opcode_table.json, byte 0 written bit by bit, operand byte 1 = 0x34 and byte 2 = 0x12 -/

theorem test_decode_loadStore :
    [decodeTableWord 16 (0x3400 + 0b10101001),
      decodeTableWord 16 (0x3400 + 0b10100101),
      decodeTableWord 16 (0x3400 + 0b10110101),
      decodeTableWord 24 (0x123400 + 0b10101101),
      decodeTableWord 24 (0x123400 + 0b10111101),
      decodeTableWord 24 (0x123400 + 0b10111001),
      decodeTableWord 16 (0x3400 + 0b10100001),
      decodeTableWord 16 (0x3400 + 0b10110001),
      decodeTableWord 16 (0x3400 + 0b10100010),
      decodeTableWord 16 (0x3400 + 0b10100110),
      decodeTableWord 16 (0x3400 + 0b10110110),
      decodeTableWord 24 (0x123400 + 0b10101110),
      decodeTableWord 24 (0x123400 + 0b10111110),
      decodeTableWord 16 (0x3400 + 0b10100000),
      decodeTableWord 16 (0x3400 + 0b10100100),
      decodeTableWord 16 (0x3400 + 0b10110100),
      decodeTableWord 24 (0x123400 + 0b10101100),
      decodeTableWord 24 (0x123400 + 0b10111100),
      decodeTableWord 16 (0x3400 + 0b10000101),
      decodeTableWord 16 (0x3400 + 0b10010101),
      decodeTableWord 24 (0x123400 + 0b10001101),
      decodeTableWord 24 (0x123400 + 0b10011101),
      decodeTableWord 24 (0x123400 + 0b10011001),
      decodeTableWord 16 (0x3400 + 0b10000001),
      decodeTableWord 16 (0x3400 + 0b10010001),
      decodeTableWord 16 (0x3400 + 0b10000110),
      decodeTableWord 16 (0x3400 + 0b10010110),
      decodeTableWord 24 (0x123400 + 0b10001110),
      decodeTableWord 16 (0x3400 + 0b10000100),
      decodeTableWord 16 (0x3400 + 0b10010100),
      decodeTableWord 24 (0x123400 + 0b10001100)]
      = [some (.ldaImm 0x34),
        some (.ldaZp 0x34),
        some (.ldaZpx 0x34),
        some (.ldaAbs 0x1234),
        some (.ldaAbsx 0x1234),
        some (.ldaAbsy 0x1234),
        some (.ldaIndx 0x34),
        some (.ldaIndy 0x34),
        some (.ldxImm 0x34),
        some (.ldxZp 0x34),
        some (.ldxZpy 0x34),
        some (.ldxAbs 0x1234),
        some (.ldxAbsy 0x1234),
        some (.ldyImm 0x34),
        some (.ldyZp 0x34),
        some (.ldyZpx 0x34),
        some (.ldyAbs 0x1234),
        some (.ldyAbsx 0x1234),
        some (.staZp 0x34),
        some (.staZpx 0x34),
        some (.staAbs 0x1234),
        some (.staAbsx 0x1234),
        some (.staAbsy 0x1234),
        some (.staIndx 0x34),
        some (.staIndy 0x34),
        some (.stxZp 0x34),
        some (.stxZpy 0x34),
        some (.stxAbs 0x1234),
        some (.styZp 0x34),
        some (.styZpx 0x34),
        some (.styAbs 0x1234)] := by
  decide +kernel

theorem test_decode_arithmetic :
    [decodeTableWord 16 (0x3400 + 0b01101001),
      decodeTableWord 16 (0x3400 + 0b01100101),
      decodeTableWord 16 (0x3400 + 0b01110101),
      decodeTableWord 24 (0x123400 + 0b01101101),
      decodeTableWord 24 (0x123400 + 0b01111101),
      decodeTableWord 24 (0x123400 + 0b01111001),
      decodeTableWord 16 (0x3400 + 0b01100001),
      decodeTableWord 16 (0x3400 + 0b01110001),
      decodeTableWord 16 (0x3400 + 0b11101001),
      decodeTableWord 16 (0x3400 + 0b11100101),
      decodeTableWord 16 (0x3400 + 0b11110101),
      decodeTableWord 24 (0x123400 + 0b11101101),
      decodeTableWord 24 (0x123400 + 0b11111101),
      decodeTableWord 24 (0x123400 + 0b11111001),
      decodeTableWord 16 (0x3400 + 0b11100001),
      decodeTableWord 16 (0x3400 + 0b11110001)]
      = [some (.adcImm 0x34),
        some (.adcZp 0x34),
        some (.adcZpx 0x34),
        some (.adcAbs 0x1234),
        some (.adcAbsx 0x1234),
        some (.adcAbsy 0x1234),
        some (.adcIndx 0x34),
        some (.adcIndy 0x34),
        some (.sbcImm 0x34),
        some (.sbcZp 0x34),
        some (.sbcZpx 0x34),
        some (.sbcAbs 0x1234),
        some (.sbcAbsx 0x1234),
        some (.sbcAbsy 0x1234),
        some (.sbcIndx 0x34),
        some (.sbcIndy 0x34)] := by
  decide +kernel

theorem test_decode_logical :
    [decodeTableWord 16 (0x3400 + 0b00101001),
      decodeTableWord 16 (0x3400 + 0b00100101),
      decodeTableWord 16 (0x3400 + 0b00110101),
      decodeTableWord 24 (0x123400 + 0b00101101),
      decodeTableWord 24 (0x123400 + 0b00111101),
      decodeTableWord 24 (0x123400 + 0b00111001),
      decodeTableWord 16 (0x3400 + 0b00100001),
      decodeTableWord 16 (0x3400 + 0b00110001),
      decodeTableWord 16 (0x3400 + 0b00001001),
      decodeTableWord 16 (0x3400 + 0b00000101),
      decodeTableWord 16 (0x3400 + 0b00010101),
      decodeTableWord 24 (0x123400 + 0b00001101),
      decodeTableWord 24 (0x123400 + 0b00011101),
      decodeTableWord 24 (0x123400 + 0b00011001),
      decodeTableWord 16 (0x3400 + 0b00000001),
      decodeTableWord 16 (0x3400 + 0b00010001),
      decodeTableWord 16 (0x3400 + 0b01001001),
      decodeTableWord 16 (0x3400 + 0b01000101),
      decodeTableWord 16 (0x3400 + 0b01010101),
      decodeTableWord 24 (0x123400 + 0b01001101),
      decodeTableWord 24 (0x123400 + 0b01011101),
      decodeTableWord 24 (0x123400 + 0b01011001),
      decodeTableWord 16 (0x3400 + 0b01000001),
      decodeTableWord 16 (0x3400 + 0b01010001),
      decodeTableWord 16 (0x3400 + 0b00100100),
      decodeTableWord 24 (0x123400 + 0b00101100)]
      = [some (.andImm 0x34),
        some (.andZp 0x34),
        some (.andZpx 0x34),
        some (.andAbs 0x1234),
        some (.andAbsx 0x1234),
        some (.andAbsy 0x1234),
        some (.andIndx 0x34),
        some (.andIndy 0x34),
        some (.oraImm 0x34),
        some (.oraZp 0x34),
        some (.oraZpx 0x34),
        some (.oraAbs 0x1234),
        some (.oraAbsx 0x1234),
        some (.oraAbsy 0x1234),
        some (.oraIndx 0x34),
        some (.oraIndy 0x34),
        some (.eorImm 0x34),
        some (.eorZp 0x34),
        some (.eorZpx 0x34),
        some (.eorAbs 0x1234),
        some (.eorAbsx 0x1234),
        some (.eorAbsy 0x1234),
        some (.eorIndx 0x34),
        some (.eorIndy 0x34),
        some (.bitZp 0x34),
        some (.bitAbs 0x1234)] := by
  decide +kernel

theorem test_decode_compare :
    [decodeTableWord 16 (0x3400 + 0b11001001),
      decodeTableWord 16 (0x3400 + 0b11000101),
      decodeTableWord 16 (0x3400 + 0b11010101),
      decodeTableWord 24 (0x123400 + 0b11001101),
      decodeTableWord 24 (0x123400 + 0b11011101),
      decodeTableWord 24 (0x123400 + 0b11011001),
      decodeTableWord 16 (0x3400 + 0b11000001),
      decodeTableWord 16 (0x3400 + 0b11010001),
      decodeTableWord 16 (0x3400 + 0b11100000),
      decodeTableWord 16 (0x3400 + 0b11100100),
      decodeTableWord 24 (0x123400 + 0b11101100),
      decodeTableWord 16 (0x3400 + 0b11000000),
      decodeTableWord 16 (0x3400 + 0b11000100),
      decodeTableWord 24 (0x123400 + 0b11001100)]
      = [some (.cmpImm 0x34),
        some (.cmpZp 0x34),
        some (.cmpZpx 0x34),
        some (.cmpAbs 0x1234),
        some (.cmpAbsx 0x1234),
        some (.cmpAbsy 0x1234),
        some (.cmpIndx 0x34),
        some (.cmpIndy 0x34),
        some (.cpxImm 0x34),
        some (.cpxZp 0x34),
        some (.cpxAbs 0x1234),
        some (.cpyImm 0x34),
        some (.cpyZp 0x34),
        some (.cpyAbs 0x1234)] := by
  decide +kernel

theorem test_decode_shiftRotate :
    [decodeTableWord 8 (0b00001010),
      decodeTableWord 16 (0x3400 + 0b00000110),
      decodeTableWord 16 (0x3400 + 0b00010110),
      decodeTableWord 24 (0x123400 + 0b00001110),
      decodeTableWord 24 (0x123400 + 0b00011110),
      decodeTableWord 8 (0b01001010),
      decodeTableWord 16 (0x3400 + 0b01000110),
      decodeTableWord 16 (0x3400 + 0b01010110),
      decodeTableWord 24 (0x123400 + 0b01001110),
      decodeTableWord 24 (0x123400 + 0b01011110),
      decodeTableWord 8 (0b00101010),
      decodeTableWord 16 (0x3400 + 0b00100110),
      decodeTableWord 16 (0x3400 + 0b00110110),
      decodeTableWord 24 (0x123400 + 0b00101110),
      decodeTableWord 24 (0x123400 + 0b00111110),
      decodeTableWord 8 (0b01101010),
      decodeTableWord 16 (0x3400 + 0b01100110),
      decodeTableWord 16 (0x3400 + 0b01110110),
      decodeTableWord 24 (0x123400 + 0b01101110),
      decodeTableWord 24 (0x123400 + 0b01111110)]
      = [some .aslAcc,
        some (.aslZp 0x34),
        some (.aslZpx 0x34),
        some (.aslAbs 0x1234),
        some (.aslAbsx 0x1234),
        some .lsrAcc,
        some (.lsrZp 0x34),
        some (.lsrZpx 0x34),
        some (.lsrAbs 0x1234),
        some (.lsrAbsx 0x1234),
        some .rolAcc,
        some (.rolZp 0x34),
        some (.rolZpx 0x34),
        some (.rolAbs 0x1234),
        some (.rolAbsx 0x1234),
        some .rorAcc,
        some (.rorZp 0x34),
        some (.rorZpx 0x34),
        some (.rorAbs 0x1234),
        some (.rorAbsx 0x1234)] := by
  decide +kernel

theorem test_decode_incDec :
    [decodeTableWord 16 (0x3400 + 0b11100110),
      decodeTableWord 16 (0x3400 + 0b11110110),
      decodeTableWord 24 (0x123400 + 0b11101110),
      decodeTableWord 24 (0x123400 + 0b11111110),
      decodeTableWord 16 (0x3400 + 0b11000110),
      decodeTableWord 16 (0x3400 + 0b11010110),
      decodeTableWord 24 (0x123400 + 0b11001110),
      decodeTableWord 24 (0x123400 + 0b11011110),
      decodeTableWord 8 (0b11101000),
      decodeTableWord 8 (0b11001000),
      decodeTableWord 8 (0b11001010),
      decodeTableWord 8 (0b10001000)]
      = [some (.incZp 0x34),
        some (.incZpx 0x34),
        some (.incAbs 0x1234),
        some (.incAbsx 0x1234),
        some (.decZp 0x34),
        some (.decZpx 0x34),
        some (.decAbs 0x1234),
        some (.decAbsx 0x1234),
        some .inx,
        some .iny,
        some .dex,
        some .dey] := by
  decide +kernel

theorem test_decode_branch :
    [decodeTableWord 16 (0x3400 + 0b10010000),
      decodeTableWord 16 (0x3400 + 0b10110000),
      decodeTableWord 16 (0x3400 + 0b11110000),
      decodeTableWord 16 (0x3400 + 0b11010000),
      decodeTableWord 16 (0x3400 + 0b00110000),
      decodeTableWord 16 (0x3400 + 0b00010000),
      decodeTableWord 16 (0x3400 + 0b01010000),
      decodeTableWord 16 (0x3400 + 0b01110000)]
      = [some (.bcc 0x34),
        some (.bcs 0x34),
        some (.beq 0x34),
        some (.bne 0x34),
        some (.bmi 0x34),
        some (.bpl 0x34),
        some (.bvc 0x34),
        some (.bvs 0x34)] := by
  decide +kernel

theorem test_decode_stackControl :
    [decodeTableWord 8 (0b01001000),
      decodeTableWord 8 (0b01101000),
      decodeTableWord 8 (0b00001000),
      decodeTableWord 8 (0b00101000),
      decodeTableWord 24 (0x123400 + 0b00100000),
      decodeTableWord 8 (0b01100000),
      decodeTableWord 8 (0b01000000),
      decodeTableWord 8 (0b00000000),
      decodeTableWord 24 (0x123400 + 0b01001100),
      decodeTableWord 24 (0x123400 + 0b01101100)]
      = [some .pha,
        some .pla,
        some .php,
        some .plp,
        some (.jsr 0x1234),
        some .rts,
        some .rti,
        some .brk,
        some (.jmpAbs 0x1234),
        some (.jmpInd 0x1234)] := by
  decide +kernel

theorem test_decode_flagsNopTransfers :
    [decodeTableWord 8 (0b00011000),
      decodeTableWord 8 (0b00111000),
      decodeTableWord 8 (0b11011000),
      decodeTableWord 8 (0b11111000),
      decodeTableWord 8 (0b01011000),
      decodeTableWord 8 (0b01111000),
      decodeTableWord 8 (0b10111000),
      decodeTableWord 8 (0b11101010),
      decodeTableWord 8 (0b10101010),
      decodeTableWord 8 (0b10101000),
      decodeTableWord 8 (0b10001010),
      decodeTableWord 8 (0b10011000),
      decodeTableWord 8 (0b10111010),
      decodeTableWord 8 (0b10011010)]
      = [some .clc,
        some .sec,
        some .cld,
        some .sed,
        some .cli,
        some .sei,
        some .clv,
        some .nop,
        some .tax,
        some .tay,
        some .txa,
        some .tya,
        some .tsx,
        some .txs] := by
  decide +kernel

/-- 95_test_vectors.md V263 to V266: bytes that are no opcode are rejected by name. -/
theorem test_decode_unmapped :
    decode Config.defaultOps [0x02] = .error (.illegalOpcode 0x02) ∧ decode Config.defaultOps [0xFF, 0xFF, 0xFF] = .error (.illegalOpcode 0xFF)
      ∧ decode Config.defaultOps [0xEB] = .error (.illegalOpcode 0xEB) ∧ decode Config.defaultOps [0x80] = .error (.illegalOpcode 0x80) :=
  ⟨rfl, rfl, rfl, rfl⟩

/-- 30_encoding.md R81: too few bytes for the format are rejected by name. -/
theorem test_decode_truncated :
    decode Config.defaultOps [] = .error .truncated ∧ decode Config.defaultOps [0x8D, 0x34] = .error .truncated := ⟨rfl, rfl⟩

/-- The bits of the host's word above `nbits` are 0, and the first byte is the least significant. -/
theorem test_withFetchWord :
    after (State.reset.withFetchWord 8 0xFFA9) (fun t => (t.a, t.ps, t.pc)) = some (0x00, 0x02, 0x0002)
      ∧ after (State.reset.withFetchWord 24 0x123420) (fun t => t.pc) = some 0x1234 := by
  decide

/-! ### Witnesses: the hypotheses of each statement can be met -/

/-- LDA #$10 at 0x8000. -/
def atLda : State := start 0x8000 [0xA9, 0x10] []

/-- PHA at 0x8000. -/
def atPha : State := start 0x8000 [0x48] []

/-- An unmapped byte at 0x8000. -/
def atUnmapped : State := start 0x8000 [0x02] []

/-- A state in the middle of an instruction of the class DATA, with one device. -/
def inData : State := { State.reset with accessType := 0b111, cfg := { Config.default with devices := oneDevice } }

/-- The row of LDA imm. -/
def ldaRow : OpRow := ⟨0xA9, .LDA, .imm, 0b011, 2, ⟨0, 0⟩⟩

theorem witness_EncodeOfDecode :
    decode Config.defaultOps [0xA9, 0x10, 0x42] = .ok (.ldaImm 0x10, [0x42]) := rfl

theorem witness_StepRunsTheDecodedInstruction : atLda.Running ∧ atLda.Fetches ldaRow (.ldaImm 0x10) :=
  ⟨⟨rfl, rfl⟩, rfl, rfl⟩

theorem witness_StepRunsTheInstructionInMemory :
    atLda.Running ∧ atLda.cfg.ops = Config.defaultOps
      ∧ rowOf Config.defaultOps (Instr.ldaImm 0x10).opcode = some ldaRow
      ∧ ∀ (k : Nat) (v : Byte), (encode (.ldaImm 0x10))[k]? = some v →
        regionOf atLda.cfg (atLda.pc + BitVec.ofNat 16 k) ≠ .mmio
          ∧ atLda.mem.read (atLda.pc + BitVec.ofNat 16 k).toNat = v := by
  refine ⟨⟨rfl, rfl⟩, rfl, rfl, fun k v h => ?_⟩
  have hk : k < 2 := (List.getElem?_eq_some_iff.1 h).1
  interval_cases k
  · exact ⟨by decide, Option.some.inj h⟩
  · exact ⟨by decide, Option.some.inj h⟩

theorem witness_UnmappedOpcodeHalts : atUnmapped.Running ∧ rowOf atUnmapped.cfg.ops atUnmapped.opcodeByte = none :=
  ⟨⟨rfl, rfl⟩, rfl⟩

/-- PC at both ends of the MMIO window. -/
theorem witness_UnmappedOpcodeHalts_in_mmio :
    (start 0xD000 [] []).Running ∧ (start 0xD000 [] []).cfg.fetchAccess = 0b011
      ∧ (start 0xD000 [] []).cfg.ops = Config.defaultOps
      ∧ regionOf (start 0xD000 [] []).cfg (start 0xD000 [] []).pc = .mmio
      ∧ regionOf (start 0xDFFF [] []).cfg (start 0xDFFF [] []).pc = .mmio :=
  ⟨⟨rfl, rfl⟩, rfl, rfl, rfl, rfl⟩

theorem witness_StepsThatAreNotTaken :
    (State.powerOn Config.default).ready = false
      ∧ { State.reset with halted := true }.ready = true ∧ { State.reset with halted := true }.halted = true :=
  ⟨rfl, rfl, rfl⟩

theorem witness_StepChargesOnce :
    atLda.Running ∧ atLda.Fetches ldaRow (.ldaImm 0x10)
      ∧ (∃ u, exec (.ldaImm 0x10) (atLda.afterInstruction ldaRow) = .next u) ∧ atLda.cfg.ops = Config.defaultOps :=
  ⟨⟨rfl, rfl⟩, ⟨rfl, rfl⟩, ⟨_, rfl⟩, rfl⟩

/-- The most penalties an instruction returns: a branch taken to another page (95_test_vectors.md V222). -/
theorem witness_StepChargesOnce_two_penalties :
    (start 0x8000 [0xD0, 0x80] []).Running
      ∧ (start 0x8000 [0xD0, 0x80] []).Fetches ⟨0xD0, .BNE, .rel, 0b011, 2, ⟨1, 1⟩⟩ (.bne 0x80)
      ∧ ∃ u, exec (.bne 0x80) ((start 0x8000 [0xD0, 0x80] []).afterInstruction ⟨0xD0, .BNE, .rel, 0b011, 2, ⟨1, 1⟩⟩)
          = .next u ∧ u.extra = 2 :=
  ⟨⟨rfl, rfl⟩, ⟨rfl, rfl⟩, _, rfl, rfl⟩

theorem witness_StepChargesOnce_unmapped :
    atUnmapped.Running ∧ rowOf atUnmapped.cfg.ops atUnmapped.opcodeByte = none ∧ ∃ t, step atUnmapped = .next t :=
  ⟨⟨rfl, rfl⟩, rfl, _, rfl⟩

theorem witness_StepAlwaysCompletes : State.reset.ready = true ∧ State.reset.cfg.wellFormed = true :=
  ⟨rfl, by decide +kernel⟩

theorem witness_StepKeepsTheInvariant : State.reset.Inv ∧ ∃ t, step State.reset = .next t :=
  ⟨⟨rfl, rfl, rfl, by decide, by decide +kernel⟩, _, rfl⟩

/-- Both ends of the MMIO window and of the ROM. -/
theorem witness_OnlyRamBytesChange :
    (∃ t, step atLda = .next t) ∧ regionOf atLda.cfg 0xD000 ≠ .ram ∧ regionOf atLda.cfg 0xDFFF ≠ .ram
      ∧ regionOf atLda.cfg 0xE000 ≠ .ram ∧ regionOf atLda.cfg 0xFFFF ≠ .ram :=
  ⟨⟨_, rfl⟩, by decide, by decide, by decide, by decide⟩

theorem witness_StepKeepsConfigurationAndExtendsLog : ∃ t, step atLda = .next t := ⟨_, rfl⟩

theorem witness_NoMmioBitNoDeviceCall :
    atPha.cfg.fetchAccess.getLsbD 2 = false
      ∧ (∀ row, rowOf atPha.cfg.ops atPha.opcodeByte = some row → row.access.getLsbD 2 = false)
      ∧ ∃ t, step atPha = .next t := by
  refine ⟨rfl, fun row h => ?_, _, rfl⟩
  have e : rowOf atPha.cfg.ops atPha.opcodeByte = some ⟨0x48, .PHA, .imp, 0b011, 3, ⟨0, 0⟩⟩ := rfl
  rw [e] at h
  cases h
  rfl

/-- Each flag has an instruction that does not write it. -/
theorem witness_FlagsChangeOnlyByTheirWriters :
    (∃ t, exec .nop State.reset = .next t)
      ∧ ∀ f ∈ [Flag.C, .Z, .I, .D, .B, .U, .V, .N], f ∉ flagsWritten Instr.nop.mnemonic :=
  ⟨⟨_, rfl⟩, by decide⟩

/-- 0x7F + 0x01 (95_test_vectors.md, S4). -/
theorem witness_OverflowIsSetOnlyByFiveInstructions :
    ∃ t, exec (.adcImm 0x01) { State.reset with a := 0x7F } = .next t
      ∧ flagOf { State.reset with a := 0x7F }.ps .V = false ∧ flagOf t.ps .V = true :=
  ⟨_, rfl, rfl, rfl⟩

/-- NOP meets the condition of every clause. -/
theorem witness_RegistersAndMemoryChangeOnlyByTheirWriters :
    (∃ t, exec .nop State.reset = .next t) ∧ mayWriteA .nop = false ∧ mayWriteX .nop = false
      ∧ mayWriteY .nop = false ∧ mayWriteSP .nop = false ∧ mayWritePC .nop = false ∧ mayWriteMem .nop = false :=
  ⟨⟨_, rfl⟩, rfl, rfl, rfl, rfl, rfl, rfl⟩

theorem witness_ExecuteIgnoresCountersAndLog : ∃ t, exec (.staAbs 0xE000) State.reset = .next t := ⟨_, rfl⟩

/-- The addresses where the regions meet, with and without the MMIO bit, with and without a device: the ends of the
device's range, and the address after it. -/
theorem witness_BusReadByRegion :
    regionOf inData.cfg 0xCFFF ≠ .mmio ∧ regionOf inData.cfg 0xE000 ≠ .mmio
      ∧ regionOf inData.cfg 0xD000 = .mmio ∧ regionOf inData.cfg 0xDFFF = .mmio
      ∧ State.reset.accessType.getLsbD 2 = false ∧ inData.accessType.getLsbD 2 = true
      ∧ firstDevice inData.cfg 0xD000 = some 0 ∧ firstDevice inData.cfg 0xD0FF = some 0
      ∧ firstDevice inData.cfg 0xD100 = none := by
  decide

theorem witness_BusWriteByRegion :
    regionOf inData.cfg 0x0000 = .ram ∧ regionOf inData.cfg 0xCFFF = .ram
      ∧ regionOf inData.cfg 0xE000 = .rom ∧ regionOf inData.cfg 0xFFFF = .rom
      ∧ regionOf inData.cfg 0xD000 = .mmio ∧ regionOf inData.cfg 0xDFFF = .mmio
      ∧ State.reset.accessType.getLsbD 2 = false ∧ inData.accessType.getLsbD 2 = true
      ∧ firstDevice inData.cfg 0xD0FF = some 0 ∧ firstDevice inData.cfg 0xDFFF = none := by
  decide

/-- Two overlapping devices: the first registered one is called. -/
theorem witness_FirstDeviceIsTheLeastMatch :
    firstDevice { Config.default with devices := [⟨"a", 0xD000, 0xD00F⟩, ⟨"b", 0xD00F, 0xD01F⟩] } 0xD00F = some 0
      ∧ firstDevice { Config.default with devices := [⟨"a", 0xD000, 0xD00F⟩, ⟨"b", 0xD00F, 0xD01F⟩] } 0xD010 = some 1 := by
  decide

theorem witness_ResetIsRepeatableAndTotal :
    { State.reset with halted := true }.ready = true ∧ { State.reset with halted := true }.halted = true
      ∧ ∃ t, step { State.reset with halted := true } = .next t :=
  ⟨rfl, rfl, _, rfl⟩

theorem witness_RunStopsAtTheBudgetOrAHalt : State.reset.ready = true ∧ State.reset.cfg.wellFormed = true :=
  ⟨rfl, by decide +kernel⟩

theorem witness_PokeIsARawWriteBeforeExecution :
    ((State.powerOn Config.default).ready = false ∨ (State.powerOn Config.default).started = false)
      ∧ (State.reset.ready = false ∨ State.reset.started = false)
      ∧ { State.reset with started := true }.ready = true ∧ { State.reset with started := true }.started = true :=
  ⟨.inl rfl, .inr rfl, rfl, rfl⟩

/-- A well-formed and an ill-formed configuration before the first reset, a state after it, a full device list and a
range with `lo` above `hi`. -/
theorem witness_ConfigurationComesBeforeTheFirstReset :
    (State.powerOn Config.default).ready = false ∧ Config.default.wellFormed = true
      ∧ Config.wellFormed { Config.default with ops := [], devices := [⟨"d", 0xD001, 0xD000⟩] } = false
      ∧ State.reset.ready = true
      ∧ 64 ≤ (State.powerOn { Config.default with devices := List.replicate 64 ⟨"d", 0xD000, 0xD000⟩ }).cfg.devices.length
      ∧ (0xD000 : Word).toNat < (0xD001 : Word).toNat :=
  ⟨rfl, by decide +kernel, rfl, rfl, by decide, by decide⟩

/-- The pointer at 0xFF, whose second byte stands at 0x00, for both forms. -/
theorem witness_IndirectAddressesReadAPagedPointer :
    ((0x00FF : Word).toNat = ((0xFE : Byte).toNat + { State.reset with x := 0x01 }.x.toNat) % 256
        ∧ (0x0000 : Word).toNat = ((0xFE : Byte).toNat + { State.reset with x := 0x01 }.x.toNat + 1) % 256)
      ∧ ((0x00FF : Word).toNat = (0xFF : Byte).toNat ∧ (0x0000 : Word).toNat = ((0xFF : Byte).toNat + 1) % 256)
      ∧ (0 : Nat) = ((State.reset.afterRead 0x00FF).busByte 0x0000).toNat * 256 + (State.reset.busByte 0x00FF).toNat := by
  decide

/-- A form that crosses a page, a form that does not, and an operand outside the MMIO window. -/
theorem witness_OperandValueAndPenalty :
    { State.reset with x := 0x20 }.crossed (.absx 0x12F0) = true
      ∧ { State.reset with x := 0x20 }.crossed (.absx 0x1200) = false
      ∧ State.reset.afterEa (.abs 0xCFFF) = State.reset
      ∧ regionOf State.reset.cfg (State.reset.ea (.abs 0xCFFF)) ≠ .mmio
      ∧ regionOf State.reset.cfg (State.reset.ea (.abs 0xE000)) ≠ .mmio :=
  ⟨rfl, rfl, rfl, by decide, by decide⟩

theorem witness_LdaLoadsItsOperand :
    (Instr.ldaImm 0x80).mnemonic = .LDA ∧ (Instr.ldaImm 0x80).operand = (ReadForm.imm 0x80).operand
      ∧ (Instr.ldaIndy 0x20).mnemonic = .LDA ∧ (Instr.ldaIndy 0x20).operand = (ReadForm.mem (.indy 0x20)).operand :=
  ⟨rfl, rfl, rfl, rfl⟩

theorem witness_LdxLoadsItsOperand :
    (Instr.ldxZpy 0xF0).mnemonic = .LDX ∧ (Instr.ldxZpy 0xF0).operand = (ReadForm.mem (.zpy 0xF0)).operand :=
  ⟨rfl, rfl⟩

theorem witness_LdyLoadsItsOperand :
    (Instr.ldyAbsx 0x12F0).mnemonic = .LDY ∧ (Instr.ldyAbsx 0x12F0).operand = (ReadForm.mem (.absx 0x12F0)).operand :=
  ⟨rfl, rfl⟩

theorem witness_StoresWriteOneByte :
    ((Instr.staAbsx 0x1200).operand = .mem (.absx 0x1200) ∧ storedRegister State.reset (Instr.staAbsx 0x1200).mnemonic = some 0x00)
      ∧ ((Instr.stxZpy 0x10).operand = .mem (.zpy 0x10) ∧ storedRegister State.reset (Instr.stxZpy 0x10).mnemonic = some 0x00)
      ∧ ((Instr.styAbs 0xE000).operand = .mem (.abs 0xE000) ∧ storedRegister State.reset (Instr.styAbs 0xE000).mnemonic = some 0x00) :=
  ⟨⟨rfl, rfl⟩, ⟨rfl, rfl⟩, rfl, rfl⟩

/-- 0x7F + 0x01 without carry: both sums. -/
theorem witness_AdcAddsWithCarry :
    (Instr.adcImm 0x01).mnemonic = .ADC ∧ (Instr.adcImm 0x01).operand = (ReadForm.imm 0x01).operand
      ∧ (128 : Nat) = { State.reset with a := 0x7F }.a.toNat + ({ State.reset with a := 0x7F }.operandByte (.imm 0x01)).toNat
          + ({ State.reset with a := 0x7F }.flag .C).toNat
      ∧ (128 : Int) = { State.reset with a := 0x7F }.a.toInt + ({ State.reset with a := 0x7F }.operandByte (.imm 0x01)).toInt
          + (({ State.reset with a := 0x7F }.flag .C).toNat : Int) := by
  decide

/-- 0x00 - 0x01 with a borrow pending: both differences. -/
theorem witness_SbcSubtractsWithBorrow :
    (Instr.sbcImm 0x01).mnemonic = .SBC ∧ (Instr.sbcImm 0x01).operand = (ReadForm.imm 0x01).operand
      ∧ (-2 : Int) = (State.reset.a.toNat : Int) - ((State.reset.operandByte (.imm 0x01)).toNat : Int)
          - (1 - ((State.reset.flag .C).toNat : Int))
      ∧ (-2 : Int) = State.reset.a.toInt - (State.reset.operandByte (.imm 0x01)).toInt
          - (1 - ((State.reset.flag .C).toNat : Int)) := by
  decide

theorem witness_DecimalFlagChangesNothing :
    ((Instr.adcImm 0x05).mnemonic = .ADC ∨ (Instr.adcImm 0x05).mnemonic = .SBC)
      ∧ ∃ t, exec (.adcImm 0x05) { State.reset with a := 0x09 } = .next t :=
  ⟨.inl rfl, _, rfl⟩

theorem witness_LogicalOperationsWriteA :
    ((Instr.andImm 0x3C).operand = (ReadForm.imm 0x3C).operand
        ∧ logicalValue 0xF0 ({ State.reset with a := 0xF0 }.operandByte (.imm 0x3C)) (Instr.andImm 0x3C).mnemonic = some 0x30)
      ∧ ((Instr.oraImm 0x80).operand = (ReadForm.imm 0x80).operand
        ∧ logicalValue 0x0F (State.reset.operandByte (.imm 0x80)) (Instr.oraImm 0x80).mnemonic = some 0x8F)
      ∧ ((Instr.eorImm 0xFF).operand = (ReadForm.imm 0xFF).operand
        ∧ logicalValue 0xAA (State.reset.operandByte (.imm 0xFF)) (Instr.eorImm 0xFF).mnemonic = some 0x55) := by
  decide

theorem witness_BitTestsWithoutWritingA :
    (Instr.bitZp 0x40).mnemonic = .BIT ∧ (Instr.bitZp 0x40).operand = (ReadForm.mem (.zp 0x40)).operand :=
  ⟨rfl, rfl⟩

theorem witness_ComparesWriteFlagsOnly :
    ((Instr.cmpImm 0x10).operand = (ReadForm.imm 0x10).operand ∧ comparedRegister State.reset (Instr.cmpImm 0x10).mnemonic = some 0x00)
      ∧ ((Instr.cpxAbs 0x1234).operand = (ReadForm.mem (.abs 0x1234)).operand
        ∧ comparedRegister State.reset (Instr.cpxAbs 0x1234).mnemonic = some 0x00)
      ∧ ((Instr.cpyZp 0x44).operand = (ReadForm.mem (.zp 0x44)).operand
        ∧ comparedRegister State.reset (Instr.cpyZp 0x44).mnemonic = some 0x00) := by
  decide

/-- The four shifts of 0x81 with the carry set. -/
theorem witness_AccumulatorShifts :
    (Instr.aslAcc.operand = .acc ∧ shiftedValue (0x81 : Byte).toNat true.toNat Instr.aslAcc.mnemonic = some (0x02, 1))
      ∧ (Instr.lsrAcc.operand = .acc ∧ shiftedValue (0x81 : Byte).toNat true.toNat Instr.lsrAcc.mnemonic = some (0x40, 1))
      ∧ (Instr.rolAcc.operand = .acc ∧ shiftedValue (0x81 : Byte).toNat true.toNat Instr.rolAcc.mnemonic = some (0x03, 1))
      ∧ (Instr.rorAcc.operand = .acc ∧ shiftedValue (0x81 : Byte).toNat true.toNat Instr.rorAcc.mnemonic = some (0xC0, 1)) := by
  decide

theorem witness_MemoryShifts :
    (Instr.aslZp 0x10).operand = .mem (.zp 0x10)
      ∧ shiftedValue (State.reset.cellByte (.zp 0x10)).toNat (State.reset.flag .C).toNat (Instr.aslZp 0x10).mnemonic = some (0, 0)
      ∧ (Instr.rorAbsx 0x1200).operand = .mem (.absx 0x1200)
      ∧ shiftedValue (State.reset.cellByte (.absx 0x1200)).toNat (State.reset.flag .C).toNat (Instr.rorAbsx 0x1200).mnemonic
          = some (0, 0) := by
  decide

/-- INC of 0x00 and DEC of 0x00, which wraps. -/
theorem witness_IncrementAndDecrementACell :
    ((Instr.incZp 0x20).operand = .mem (.zp 0x20) ∧ (Instr.incZp 0x20).mnemonic = .INC
        ∧ 1 = ((State.reset.cellByte (.zp 0x20)).toNat + 1) % 256)
      ∧ ((Instr.decZp 0x20).operand = .mem (.zp 0x20) ∧ (Instr.decZp 0x20).mnemonic = .DEC
        ∧ 255 = ((State.reset.cellByte (.zp 0x20)).toNat + 255) % 256) := by
  decide

/-- A taken branch backwards across address 0 (95_test_vectors.md V226), and one not taken. -/
theorem witness_BranchesGoToTheirTarget :
    ((Instr.bne 0xFD).operand = .rel 0xFD ∧ branchTaken 0x00 (Instr.bne 0xFD).mnemonic = some true
        ∧ (0xFFFF : Word) = BitVec.ofInt 16 (((0x0002 : Word).toNat : Int) + (0xFD : Byte).toInt))
      ∧ ((Instr.bcs 0x04).operand = .rel 0x04 ∧ branchTaken 0x00 (Instr.bcs 0x04).mnemonic = some false) := by
  decide

/-- Both instructions, and the cell at SP = 0x00 and SP = 0xFF. -/
theorem witness_PushInstructions :
    (Instr.pha = .pha ∧ (0x00 : Byte) = State.reset.a) ∧ (Instr.php = .php ∧ (0x10 : Byte) = State.reset.ps ||| 0x10)
      ∧ (0x0100 : Word) = BitVec.ofNat 16 (256 + { State.reset with sp := 0x00 }.sp.toNat)
      ∧ (0x01FF : Word) = BitVec.ofNat 16 (256 + { State.reset with sp := 0xFF }.sp.toNat) := by
  decide

/-- The cell at SP = 0xFF, where SP wraps, and after reset. -/
theorem witness_PullInstructions :
    (0x0100 : Word) = BitVec.ofNat 16 (256 + ({ State.reset with sp := 0xFF }.sp.toNat + 1) % 256)
      ∧ (0x01FE : Word) = BitVec.ofNat 16 (256 + (State.reset.sp.toNat + 1) % 256) := by
  decide

/-- A JSR whose following instruction stands at 0x0000: the pushed address wraps. -/
theorem witness_JsrPushesItsLastByteAddress :
    (0xFFFF : Word) = State.reset.pc - 1 ∧ (0xFF : Byte) = BitVec.ofNat 8 ((0xFFFF : Word).toNat / 256)
      ∧ (0xFF : Byte) = BitVec.ofNat 8 ((0xFFFF : Word).toNat % 256) := by
  decide

/-- A BRK at 0x80FF (95_test_vectors.md V241). -/
theorem witness_BrkEntersTheTrapAndHalts :
    ∃ pushed : State, (0x8101 : Word) = { State.reset with pc := 0x8100 }.pc - 1 + 2
      ∧ (0x81 : Byte) = BitVec.ofNat 8 ((0x8101 : Word).toNat / 256)
      ∧ (0x01 : Byte) = BitVec.ofNat 8 ((0x8101 : Word).toNat % 256)
      ∧ (0x10 : Byte) = { State.reset with pc := 0x8100 }.ps ||| 0x10
      ∧ pushed = (({ State.reset with pc := 0x8100 }.push 0x81).push 0x01).push 0x10 :=
  ⟨_, by decide, by decide, by decide, by decide, rfl⟩

/-- A pointer at the end of a page, and one in the middle. -/
theorem witness_JumpsLoadPc :
    (0x3000 : Word).toNat = (0x30FF : Word).toNat / 256 * 256 + ((0x30FF : Word).toNat + 1) % 256
      ∧ (0x3011 : Word).toNat = (0x3010 : Word).toNat / 256 * 256 + ((0x3010 : Word).toNat + 1) % 256 := by
  decide

theorem witness_FlagInstructionsWriteOneFlag :
    flagWritten Instr.clc.mnemonic = some (.C, false) ∧ flagWritten Instr.sec.mnemonic = some (.C, true)
      ∧ flagWritten Instr.cld.mnemonic = some (.D, false) ∧ flagWritten Instr.sed.mnemonic = some (.D, true)
      ∧ flagWritten Instr.cli.mnemonic = some (.I, false) ∧ flagWritten Instr.sei.mnemonic = some (.I, true)
      ∧ flagWritten Instr.clv.mnemonic = some (.V, false) := by
  decide

/-- From SP = 0x00 the second push wraps to 0x01FF. -/
theorem witness_JsrThenRtsReturns :
    regionOf State.reset.cfg (stackAddr { State.reset with sp := 0x00 }.sp) = .ram
      ∧ regionOf State.reset.cfg (stackAddr ({ State.reset with sp := 0x00 }.sp - 1)) = .ram
      ∧ ∃ t u : State, exec (.jsr 0x9000) { State.reset with sp := 0x00 } = .next t ∧ u.mem = t.mem ∧ u.sp = t.sp
        ∧ u.cfg = t.cfg :=
  ⟨by decide, by decide, _, _, rfl, rfl, rfl, rfl⟩

theorem witness_PushThenPullRoundTrips :
    regionOf State.reset.cfg (stackAddr State.reset.sp) = .ram
      ∧ (∃ t u : State, exec .pha State.reset = .next t ∧ u.mem = t.mem ∧ u.sp = t.sp ∧ u.cfg = t.cfg)
      ∧ ∃ t u : State, exec .php State.reset = .next t ∧ u.mem = t.mem ∧ u.sp = t.sp ∧ u.cfg = t.cfg :=
  ⟨by decide, ⟨_, _, rfl, rfl, rfl, rfl⟩, _, _, rfl, rfl, rfl, rfl⟩

theorem witness_BrkThenRtiReturns :
    regionOf State.reset.cfg (stackAddr { State.reset with sp := 0x01 }.sp) = .ram
      ∧ regionOf State.reset.cfg (stackAddr ({ State.reset with sp := 0x01 }.sp - 1)) = .ram
      ∧ regionOf State.reset.cfg (stackAddr ({ State.reset with sp := 0x01 }.sp - 2)) = .ram
      ∧ ∃ t u : State, exec .brk { State.reset with sp := 0x01 } = .next t ∧ u.mem = t.mem ∧ u.sp = t.sp
        ∧ u.cfg = t.cfg :=
  ⟨by decide, by decide, by decide, _, _, rfl, rfl, rfl, rfl⟩

end Sys2Proof.Tests
end

section
/-! The flags an instruction leaves alone, by the table of 10_state.md R18, and from it R19: which instructions can
set V. -/

namespace Sys2Proof.Machine

/-- A shift or rotate, of A or of a cell, leaves every flag but C, Z and N (45_shift_rotate.md R170). -/
theorem State.flagOf_shift_of_not_mem {f : Flag} (s : State) (r : RmwForm) (step : Byte → Bool → Byte × Bool)
    (hf : f ∉ [Flag.C, .Z, .N]) : flagOf (s.shift r step).ps f = flagOf s.ps f := by
  cases r with
  | acc => simp_all [State.shift_acc_eq]
  | mem m => simp_all [State.shift_mem_eq]

/-- Execute leaves every flag outside its mnemonic's row of the table of R18. The cases are grouped by what they do
to PS: `SetZN` alone, a computation of several flags, nothing, one flag, or all eight. -/
theorem ExecShape.flagOf_eq_of_not_written {s t : State} {i : Instr} {f : Flag} (h : ExecShape s i t)
    (hf : f ∉ flagsWritten i.mnemonic) : flagOf t.ps f = flagOf s.ps f := by
  cases h with
  | lda _ _ hm | ldx _ _ hm | ldy _ _ hm =>
    simp_all [flagsWritten, State.lda_eq, State.ldx_eq, State.ldy_eq]
  | and_ _ _ hm | ora_ _ _ hm | eor_ _ _ hm =>
    simp_all [flagsWritten, State.and, State.ora, State.eor, State.logicResult_eq]
  | inc _ _ hm | dec _ _ hm =>
    simp_all [flagsWritten, State.inc, State.dec, State.bumpCell_eq]
  | tax | tay | txa | tya | tsx | inx | iny | dex | dey | pla =>
    simp_all [flagsWritten, Instr.mnemonic]
  | adc _ _ hm | sbc _ _ hm =>
    simp_all [flagsWritten, State.adc_eq, State.sbc_eq, flagOf_addFlags]
  | bit _ _ hm =>
    simp_all [flagsWritten, State.bit_eq, flagOf_bitFlags]
  | cmp _ _ hm | cpx _ _ hm | cpy _ _ hm =>
    simp_all [flagsWritten, State.cmp, State.cpx, State.cpy, State.compare_eq, flagOf_compareFlags]
  | asl _ r hm | lsr _ r hm | rol _ r hm | ror _ r hm =>
    rw [hm] at hf
    exact s.flagOf_shift_of_not_mem r _ hf
  | sta | stx | sty => simp [State.sta, State.stx, State.sty, State.storeByte_eq]
  | bcc | bcs | beq | bne | bmi | bpl | bvc | bvs => simp [State.branch_eq]
  | nop | txs | pha | php | jsr | rts | jmpAbs | jmpInd => simp
  | clc | sec | cld | sed | cli | sei | clv => simp_all [flagsWritten, Instr.mnemonic]
  | brk => simp_all [flagsWritten, Instr.mnemonic, State.enterTrap_eq]
  | plp | rti => cases f <;> simp [flagsWritten, Instr.mnemonic] at hf

/-- The instructions that may change V are the five of R19, and CLV. -/
theorem five_or_clv_of_overflow_mem_flagsWritten {mn : Mnemonic} (h : Flag.V ∈ flagsWritten mn) :
    mn ∈ [Mnemonic.ADC, .SBC, .BIT, .PLP, .RTI] ∨ mn = .CLV := by
  cases mn <;> simp_all [flagsWritten]

/-- CLV has one form (30_encoding.md R86). -/
theorem eq_clv_of_mnemonic {i : Instr} (h : i.mnemonic = .CLV) : i = .clv := by
  cases i with
  | clv => rfl
  | _ => cases h

/-- After CLV the flag V is 0 (49_flags_nop_transfers.md R227). -/
theorem overflow_eq_false_of_exec_clv {s t : State} (h : exec .clv s = .next t) : flagOf t.ps .V = false := by
  rw [exec_next_unique .clv s t _ h rfl]
  simp

/-- Settles O18: V changes only in an instruction that may write it, and of those CLV only clears it. -/
theorem overflowIsSetOnlyByFiveInstructions : Obligations.OverflowIsSetOnlyByFiveInstructions := by
  intro i s t hexec hs ht
  have shape := shape_of_exec i s t hexec
  have hV : Flag.V ∈ flagsWritten i.mnemonic := by
    by_contra hn
    simp [shape.flagOf_eq_of_not_written hn, hs] at ht
  rcases five_or_clv_of_overflow_mem_flagsWritten hV with hfive | hclv
  · exact hfive
  · obtain rfl := eq_clv_of_mnemonic hclv
    simp [overflow_eq_false_of_exec_clv hexec] at ht

end Sys2Proof.Machine
end

section
/-! A bus transaction named by its case: the region of the address, the MMIO bit of AT and the first matching device
(20_memory.md R44, R45). From these equations, what a read answers and logs and what a write stores and logs. -/

namespace Sys2Proof.Machine

variable {s : State} {a : Word} {v : Byte} {i : Nat}

/-- A read of MMIO without the MMIO bit of AT answers the denied byte (20_memory.md R47). -/
theorem State.busByte_of_denied (hr : regionOf s.cfg a = .mmio) (hm : s.mayMmio = false) :
    s.busByte a = Config.deniedByte := by
  simp [State.busByte, hr, hm]

theorem State.afterRead_of_denied (hr : regionOf s.cfg a = .mmio) (hm : s.mayMmio = false) :
    s.afterRead a = s.emit (.mmioPermissionDenied .read a) := by
  simp [State.afterRead, hr, hm]

/-- A permitted read of a device answers the byte drawn for it (R49, R50). -/
theorem State.busByte_of_device (hr : regionOf s.cfg a = .mmio) (hm : s.mayMmio = true)
    (hd : firstDevice s.cfg a = some i) : s.busByte a = Config.deviceByte s.draws i a := by
  simp [State.busByte, hr, hm, hd]

/-- A permitted read of a device logs the very byte it answers (R44). -/
theorem State.afterRead_of_device (hr : regionOf s.cfg a = .mmio) (hm : s.mayMmio = true)
    (hd : firstDevice s.cfg a = some i) : s.afterRead a = s.drawn.emit (.deviceRead i a (s.busByte a)) := by
  rw [State.busByte_of_device hr hm hd]
  simp [State.afterRead, hr, hm, hd]

/-- A permitted read that no device's range holds answers the unmatched byte (R51). -/
theorem State.busByte_of_unmatched (hr : regionOf s.cfg a = .mmio) (hm : s.mayMmio = true)
    (hd : firstDevice s.cfg a = none) : s.busByte a = Config.unmatchedByte := by
  simp [State.busByte, hr, hm, hd]

theorem State.afterRead_of_unmatched (hr : regionOf s.cfg a = .mmio) (hm : s.mayMmio = true)
    (hd : firstDevice s.cfg a = none) : s.afterRead a = s.emit (.mmioUnmatched .read a) := by
  simp [State.afterRead, hr, hm, hd]

/-- A write to RAM stores and logs nothing. -/
theorem State.busWrite_of_ram (hr : regionOf s.cfg a = .ram) : s.busWrite a v = s.setMem a v := by
  simp [State.busWrite, hr]

/-- A write to ROM is ignored and logged (20_memory.md R46). -/
theorem State.busWrite_of_rom (hr : regionOf s.cfg a = .rom) :
    s.busWrite a v = s.emit (.romWriteIgnored a v) := by
  simp [State.busWrite, hr]

theorem State.busWrite_of_denied (hr : regionOf s.cfg a = .mmio) (hm : s.mayMmio = false) :
    s.busWrite a v = s.emit (.mmioPermissionDenied (.write v) a) := by
  simp [State.busWrite, hr, hm]

theorem State.busWrite_of_device (hr : regionOf s.cfg a = .mmio) (hm : s.mayMmio = true)
    (hd : firstDevice s.cfg a = some i) : s.busWrite a v = s.emit (.deviceWrite i a v) := by
  simp [State.busWrite, hr, hm, hd]

theorem State.busWrite_of_unmatched (hr : regionOf s.cfg a = .mmio) (hm : s.mayMmio = true)
    (hd : firstDevice s.cfg a = none) : s.busWrite a v = s.emit (.mmioUnmatched (.write v) a) := by
  simp [State.busWrite, hr, hm, hd]

/-- A bus write hands its one byte to the address given, whatever the region. -/
theorem State.storesOneByte_busWrite (s : State) (a : Word) (v : Byte) :
    StoresOneByte s (s.busWrite a v) a v := by
  constructor
  · simp [State.busWrite_read]
  · intro b hb
    simp [State.busWrite_read, hb]

end Sys2Proof.Machine
end

section
/-! R44 and R45 in full: every case of a read and of a write, each by its equation. -/

namespace Sys2Proof.Machine

/-- Settles O21: the cases of a read are plain memory, denied, device and unmatched. -/
theorem busReadByRegion : Obligations.BusReadByRegion := by
  intro s a
  rw [← s.mayMmio_eq]
  refine ⟨fun hr => ?plain, fun hr hm => ?denied, fun hr hm => ⟨fun i hd => ?device, fun hd => ?unmatched⟩⟩
  case plain => exact ⟨s.busByte_of_not_mmio a hr, s.afterRead_of_not_mmio a hr⟩
  case denied => exact ⟨State.busByte_of_denied hr hm, State.afterRead_of_denied hr hm⟩
  case device =>
    rw [State.afterRead_of_device hr hm hd]
    rfl
  case unmatched => exact ⟨State.busByte_of_unmatched hr hm hd, State.afterRead_of_unmatched hr hm hd⟩

/-- Settles O22: a write stores one byte or none, and its cases are RAM, ROM, denied, device and unmatched. -/
theorem busWriteByRegion : Obligations.BusWriteByRegion := by
  intro s a v
  rw [← s.mayMmio_eq]
  refine ⟨s.storesOneByte_busWrite a v, fun hr => ?ram, fun hr => ?rom, fun hr hm => ?denied,
    fun hr hm => ⟨fun i hd => ?device, fun hd => ?unmatched⟩⟩
  case ram =>
    rw [State.busWrite_of_ram hr]
    rfl
  case rom => exact State.busWrite_of_rom hr
  case denied => exact State.busWrite_of_denied hr hm
  case device => exact State.busWrite_of_device hr hm hd
  case unmatched => exact State.busWrite_of_unmatched hr hm hd

end Sys2Proof.Machine
end

section
/-! R109: the two outcomes of the Fetch state in which no step is taken, and what `step` answers to each. -/

namespace Sys2Proof.Machine

variable {s : State}

theorem State.fetchPhase_of_not_ready (hr : s.ready = false) : s.fetchPhase = .refuse .notReady := by
  simp [State.fetchPhase, hr]

theorem State.fetchPhase_of_halted (hr : s.ready = true) (hh : s.halted = true) : s.fetchPhase = .stay := by
  simp [State.fetchPhase, hr, hh]

theorem step_of_not_ready (hr : s.ready = false) : step s = .refused .notReady := by
  rw [step, State.fetchPhase_of_not_ready hr]

theorem step_of_halted (hr : s.ready = true) (hh : s.halted = true) : step s = .next s := by
  rw [step, State.fetchPhase_of_halted hr hh]

end Sys2Proof.Machine
end

section
/-! R109: the steps that are not taken, before the first reset and in the halt. -/

namespace Sys2Proof.Machine

/-- Settles O8: the Fetch state refuses a core that is not ready and stays in a halt, before any bus access. -/
theorem stepsThatAreNotTaken : Obligations.StepsThatAreNotTaken :=
  fun _ => ⟨step_of_not_ready, step_of_halted⟩

end Sys2Proof.Machine
end

section
/-! The step at an unmapped opcode (40_engine_and_addressing.md R101): the opcode fetch alone, then the stop. -/

namespace Sys2Proof.Machine

variable {s : State}

theorem State.fetchPhase_of_unmapped (hs : s.Running) (hrow : rowOf s.cfg.ops s.opcodeByte = none) :
    s.fetchPhase = .illegal (s.afterOpcode.stopIllegal s.opcodeByte s.pc) := by
  obtain ⟨hready, hhalted⟩ := hs
  simp [State.fetchPhase, hready, hhalted, hrow]

theorem step_of_unmapped (hs : s.Running) (hrow : rowOf s.cfg.ops s.opcodeByte = none) :
    step s = .next (s.afterOpcode.stopIllegal s.opcodeByte s.pc) := by
  rw [step, State.fetchPhase_of_unmapped hs hrow]

/-- The opcode fetch writes PC, AT, LOG, the draw counter and `started` only (R101). -/
theorem State.afterOpcode_eq (s : State) :
    s.afterOpcode
      = { s with
          pc := s.pc + 1
          accessType := s.cfg.fetchAccess
          started := true
          log := s.afterOpcode.log
          draws := s.afterOpcode.draws } :=
  s.openStep.afterFetch_eq

end Sys2Proof.Machine
end

section
/-! The opcode fetch from MMIO that FETCH_ACCESS does not permit (20_memory.md R48): the denied byte and its event. -/

namespace Sys2Proof.Machine

variable {s : State}

/-- The default FETCH_ACCESS has no MMIO bit (20_memory.md R47). -/
theorem State.mayMmio_openStep_of_fetchAccess (h : s.cfg.fetchAccess = 0b011) : s.openStep.mayMmio = false := by
  simp [State.openStep, State.mayMmio, h]

theorem State.opcodeByte_of_denied (hr : regionOf s.cfg s.pc = .mmio) (hm : s.openStep.mayMmio = false) :
    s.opcodeByte = 0xFF :=
  State.busByte_of_denied hr hm

theorem State.log_afterOpcode_of_denied (hr : regionOf s.cfg s.pc = .mmio) (hm : s.openStep.mayMmio = false) :
    s.afterOpcode.log = s.log ++ [.mmioPermissionDenied .read s.pc] :=
  congrArg State.log (State.afterRead_of_denied (s := s.openStep) hr hm)

/-- The denied byte is no opcode of the default table (30_encoding.md R88). -/
theorem rowOf_defaultOps_deniedByte : rowOf Config.defaultOps 0xFF = none := by
  decide

end Sys2Proof.Machine
end

section
/-! R242: the halt at an unmapped opcode, and the one that a denied opcode fetch leads to. -/

namespace Sys2Proof.Machine

/-- Settles O7: the step is the opcode fetch and the stop, whose record equations name all that they write; a denied
fetch reads the unmapped byte 0xFF. -/
theorem unmappedOpcodeHalts : Obligations.UnmappedOpcodeHalts := by
  refine ⟨fun s hs hrow => ⟨_, step_of_unmapped hs hrow, ?unmapped⟩, fun s hs hfetch hops hr => ?denied⟩
  case unmapped =>
    rw [State.stopIllegal_eq, s.afterOpcode_eq]
    rfl
  case denied =>
    have hm := State.mayMmio_openStep_of_fetchAccess hfetch
    have hop := State.opcodeByte_of_denied hr hm
    have hrow : rowOf s.cfg.ops s.opcodeByte = none := by rw [hops, hop, rowOf_defaultOps_deniedByte]
    refine ⟨_, step_of_unmapped hs hrow, ?_⟩
    rw [State.stopIllegal_eq, hop, s.afterOpcode_eq, State.log_afterOpcode_of_denied hr hm]
    simp

end Sys2Proof.Machine
end

section
/-! What reset leaves (70_reset_and_hazards.md R271) and what a halt keeps (40_engine_and_addressing.md R109). -/

namespace Sys2Proof.Machine

variable {s t : State}

/-- PC is the word of MEM at 0xFFFC, low byte first, read with no bus transaction (R271). -/
theorem State.toNat_pc_applyReset (s : State) :
    s.applyReset.pc.toNat = (s.mem.read 0xFFFD).toNat * 256 + (s.mem.read 0xFFFC).toNat :=
  wordOf_toNat (s.mem.read 0xFFFD) (s.mem.read 0xFFFC)

/-- Reset reads MEM alone, which it keeps, so a second one writes the same values (R272). -/
@[simp] theorem State.applyReset_applyReset (s : State) : s.applyReset.applyReset = s.applyReset := rfl

/-- No step leaves a halt: it answers the halted state itself. -/
theorem halted_of_step_of_halted (hr : s.ready = true) (hh : s.halted = true) (h : step s = .next t) :
    t.halted = true := by
  rw [step_of_halted hr hh] at h
  injection h with hst
  exact hst ▸ hh

end Sys2Proof.Machine
end

section
/-! R272: reset is repeatable, total and the only way out of a halt. -/

namespace Sys2Proof.Machine

/-- Settles O24: the fields are those reset assigns or keeps, PC is the vector's word, and a step keeps a halt. -/
theorem resetIsRepeatableAndTotal : Obligations.ResetIsRepeatableAndTotal := by
  intro s
  refine ⟨?values, s.applyReset_applyReset, fun hr hh t => halted_of_step_of_halted hr hh⟩
  case values => exact ⟨rfl, rfl, rfl, rfl, rfl, s.toNat_pc_applyReset, rfl, rfl, rfl, rfl, rfl, rfl, rfl, rfl, rfl⟩

end Sys2Proof.Machine
end

section
/-! The step at a mapped opcode (40_engine_and_addressing.md R101): the fetch, then Execute and the close. -/

namespace Sys2Proof.Machine

variable {s : State} {row : OpRow} {i : Instr}

theorem State.fetchPhase_of_fetches (hs : s.Running) (hf : s.Fetches row i) :
    s.fetchPhase = .run i row (s.afterInstruction row) := by
  obtain ⟨hready, hhalted⟩ := hs
  obtain ⟨hrow, hdecode⟩ := hf
  simp [State.fetchPhase, hready, hhalted, hrow, hdecode]

theorem step_of_fetches (hs : s.Running) (hf : s.Fetches row i) :
    step s = finishStep row (exec i (s.afterInstruction row)) := by
  rw [step, State.fetchPhase_of_fetches hs hf]

end Sys2Proof.Machine
end

section
/-! The first step of the empty machine (70_reset_and_hazards.md R274): the BRK of address 0x0000. -/

namespace Sys2Proof.Machine

/-- The row of BRK in the default table (30_encoding.md R86). -/
def brkRow : OpRow := ⟨0x00, .BRK, .imp, Config.codeAccess, 7, Config.noPenalty⟩

/-- The empty machine after its one BRK, in full (R274). The pushed 0x00 at 0x01FD leaves no entry in memory. -/
def State.afterEmptyBrk : State :=
  { State.reset with
    sp := 0xFA
    ps := 0x04
    mem := [(0x01FB, 0x10), (0x01FC, 0x02)]
    budget := -7
    total := 7
    halted := true
    haltReason := .brk
    log := [.brkHalt 0x0000]
    started := true }

theorem State.running_reset : State.reset.Running := ⟨rfl, rfl⟩

/-- Empty memory reads 0x00 at PC, which is BRK in the default map. -/
theorem State.reset_fetches_brk : State.reset.Fetches brkRow .brk := ⟨rfl, rfl⟩

/-- Execute takes the trap and halts; its cycles are not charged yet and AT is still that of BRK. -/
theorem exec_brk_of_reset :
    exec .brk (State.reset.afterInstruction brkRow)
      = .next { State.afterEmptyBrk with accessType := Config.codeAccess, budget := 0, total := 0 } := rfl

/-- The whole step: BRK is fetched and executed, and the close charges its 7 cycles. -/
theorem step_reset : step State.reset = .next State.afterEmptyBrk := by
  rw [step_of_fetches State.running_reset State.reset_fetches_brk, exec_brk_of_reset]
  rfl

end Sys2Proof.Machine
end

section
/-! R274: what happens when nothing is loaded. -/

namespace Sys2Proof.Machine

/-- Settles O25: the state after the one step is known in full, and each value stated is one of its fields. -/
theorem emptyMachineRunsOneBrk : Obligations.EmptyMachineRunsOneBrk :=
  ⟨rfl, rfl, State.afterEmptyBrk, step_reset, rfl, rfl, rfl, rfl, rfl, rfl, rfl, rfl, rfl, rfl⟩

end Sys2Proof.Machine
end

section
/-! The two directions of the decoder (30_encoding.md R80 to R84): what a successful decode is made of, and that the
bytes of an operand and the operand of a format determine each other. -/

namespace Sys2Proof

/-- A format takes from an operand's own bytes that operand, and leaves the rest (R84). -/
theorem takeOperand_bytes_append (o : Operand) (rest : List Byte) :
    takeOperand o.mode (o.bytes ++ rest) = some (o, rest) := by
  rcases o with _ | _ | v | m | p | off
  case mem => cases m <;> simp [Operand.mode, MemForm.mode, Operand.bytes, MemForm.bytes, takeOperand]
  all_goals simp [Operand.mode, Operand.bytes, takeOperand]

/-- What a format takes are the bytes of the operand it answers. -/
theorem eq_bytes_append_of_takeOperand {m : Mode} {bs rest : List Byte} {o : Operand}
    (h : takeOperand m bs = some (o, rest)) : bs = o.bytes ++ rest := by
  unfold takeOperand at h
  split at h <;> cases h <;> simp [Operand.bytes, MemForm.bytes]

/-- A decode that succeeds finds a row, takes the operand of its format and assembles the instruction (R80, R82). -/
theorem decode_eq_ok_iff {ops : List OpRow} {op : Byte} {bs rest : List Byte} {i : Instr} :
    decode ops (op :: bs) = .ok (i, rest) ↔
      ∃ row o, rowOf ops op = some row ∧ takeOperand row.mode bs = some (o, rest)
        ∧ assemble row.mnemonic o = some i := by
  constructor
  · intro h
    simp only [decode] at h
    split at h
    · cases h
    · rename_i row hrow
      split at h
      · cases h
      · rename_i o r ho
        split at h
        · cases h
        · rename_i j hj
          cases h
          exact ⟨row, o, hrow, ho, hj⟩
  · rintro ⟨row, o, hrow, ho, hi⟩
    simp [decode, hrow, ho, hi]

/-- An opcode is rejected by name exactly when it has no row (R88). -/
theorem decode_eq_illegalOpcode_iff {ops : List OpRow} {op : Byte} {bs : List Byte} :
    decode ops (op :: bs) = .error (.illegalOpcode op) ↔ rowOf ops op = none := by
  constructor
  · intro h
    simp only [decode] at h
    split at h
    · assumption
    · split at h
      · cases h
      · split at h <;> cases h
  · intro h
    simp [decode, h]

/-- A row that is found is a row of the table. -/
theorem mem_of_rowOf {ops : List OpRow} {op : Byte} {row : OpRow} (h : rowOf ops op = some row) : row ∈ ops :=
  List.mem_of_find?_eq_some h

/-- A row that is found is the row of the opcode asked for. -/
theorem opcode_of_rowOf {ops : List OpRow} {op : Byte} {row : OpRow} (h : rowOf ops op = some row) :
    row.opcode = op := by
  simpa using List.find?_some h

end Sys2Proof
end

section
/-! The default table against the instructions (30_encoding.md R86, R87): each instruction is the one of its opcode's
row, and no two rows have one mnemonic and format. -/

namespace Sys2Proof

/-- The grid of R87 agrees with the table of R86 in every cell, whatever the operand. -/
theorem opcodeRow (i : Instr) : Laws.OpcodeRow.Statement i :=
  match i with
  | .ldaImm v => Laws.OpcodeRow.ldaImm v
  | .ldaZp b => Laws.OpcodeRow.ldaZp b
  | .ldaZpx b => Laws.OpcodeRow.ldaZpx b
  | .ldaAbs w => Laws.OpcodeRow.ldaAbs w
  | .ldaAbsx w => Laws.OpcodeRow.ldaAbsx w
  | .ldaAbsy w => Laws.OpcodeRow.ldaAbsy w
  | .ldaIndx b => Laws.OpcodeRow.ldaIndx b
  | .ldaIndy b => Laws.OpcodeRow.ldaIndy b
  | .ldxImm v => Laws.OpcodeRow.ldxImm v
  | .ldxZp b => Laws.OpcodeRow.ldxZp b
  | .ldxZpy b => Laws.OpcodeRow.ldxZpy b
  | .ldxAbs w => Laws.OpcodeRow.ldxAbs w
  | .ldxAbsy w => Laws.OpcodeRow.ldxAbsy w
  | .ldyImm v => Laws.OpcodeRow.ldyImm v
  | .ldyZp b => Laws.OpcodeRow.ldyZp b
  | .ldyZpx b => Laws.OpcodeRow.ldyZpx b
  | .ldyAbs w => Laws.OpcodeRow.ldyAbs w
  | .ldyAbsx w => Laws.OpcodeRow.ldyAbsx w
  | .staZp b => Laws.OpcodeRow.staZp b
  | .staZpx b => Laws.OpcodeRow.staZpx b
  | .staAbs w => Laws.OpcodeRow.staAbs w
  | .staAbsx w => Laws.OpcodeRow.staAbsx w
  | .staAbsy w => Laws.OpcodeRow.staAbsy w
  | .staIndx b => Laws.OpcodeRow.staIndx b
  | .staIndy b => Laws.OpcodeRow.staIndy b
  | .stxZp b => Laws.OpcodeRow.stxZp b
  | .stxZpy b => Laws.OpcodeRow.stxZpy b
  | .stxAbs w => Laws.OpcodeRow.stxAbs w
  | .styZp b => Laws.OpcodeRow.styZp b
  | .styZpx b => Laws.OpcodeRow.styZpx b
  | .styAbs w => Laws.OpcodeRow.styAbs w
  | .adcImm v => Laws.OpcodeRow.adcImm v
  | .adcZp b => Laws.OpcodeRow.adcZp b
  | .adcZpx b => Laws.OpcodeRow.adcZpx b
  | .adcAbs w => Laws.OpcodeRow.adcAbs w
  | .adcAbsx w => Laws.OpcodeRow.adcAbsx w
  | .adcAbsy w => Laws.OpcodeRow.adcAbsy w
  | .adcIndx b => Laws.OpcodeRow.adcIndx b
  | .adcIndy b => Laws.OpcodeRow.adcIndy b
  | .sbcImm v => Laws.OpcodeRow.sbcImm v
  | .sbcZp b => Laws.OpcodeRow.sbcZp b
  | .sbcZpx b => Laws.OpcodeRow.sbcZpx b
  | .sbcAbs w => Laws.OpcodeRow.sbcAbs w
  | .sbcAbsx w => Laws.OpcodeRow.sbcAbsx w
  | .sbcAbsy w => Laws.OpcodeRow.sbcAbsy w
  | .sbcIndx b => Laws.OpcodeRow.sbcIndx b
  | .sbcIndy b => Laws.OpcodeRow.sbcIndy b
  | .andImm v => Laws.OpcodeRow.andImm v
  | .andZp b => Laws.OpcodeRow.andZp b
  | .andZpx b => Laws.OpcodeRow.andZpx b
  | .andAbs w => Laws.OpcodeRow.andAbs w
  | .andAbsx w => Laws.OpcodeRow.andAbsx w
  | .andAbsy w => Laws.OpcodeRow.andAbsy w
  | .andIndx b => Laws.OpcodeRow.andIndx b
  | .andIndy b => Laws.OpcodeRow.andIndy b
  | .oraImm v => Laws.OpcodeRow.oraImm v
  | .oraZp b => Laws.OpcodeRow.oraZp b
  | .oraZpx b => Laws.OpcodeRow.oraZpx b
  | .oraAbs w => Laws.OpcodeRow.oraAbs w
  | .oraAbsx w => Laws.OpcodeRow.oraAbsx w
  | .oraAbsy w => Laws.OpcodeRow.oraAbsy w
  | .oraIndx b => Laws.OpcodeRow.oraIndx b
  | .oraIndy b => Laws.OpcodeRow.oraIndy b
  | .eorImm v => Laws.OpcodeRow.eorImm v
  | .eorZp b => Laws.OpcodeRow.eorZp b
  | .eorZpx b => Laws.OpcodeRow.eorZpx b
  | .eorAbs w => Laws.OpcodeRow.eorAbs w
  | .eorAbsx w => Laws.OpcodeRow.eorAbsx w
  | .eorAbsy w => Laws.OpcodeRow.eorAbsy w
  | .eorIndx b => Laws.OpcodeRow.eorIndx b
  | .eorIndy b => Laws.OpcodeRow.eorIndy b
  | .bitZp b => Laws.OpcodeRow.bitZp b
  | .bitAbs w => Laws.OpcodeRow.bitAbs w
  | .cmpImm v => Laws.OpcodeRow.cmpImm v
  | .cmpZp b => Laws.OpcodeRow.cmpZp b
  | .cmpZpx b => Laws.OpcodeRow.cmpZpx b
  | .cmpAbs w => Laws.OpcodeRow.cmpAbs w
  | .cmpAbsx w => Laws.OpcodeRow.cmpAbsx w
  | .cmpAbsy w => Laws.OpcodeRow.cmpAbsy w
  | .cmpIndx b => Laws.OpcodeRow.cmpIndx b
  | .cmpIndy b => Laws.OpcodeRow.cmpIndy b
  | .cpxImm v => Laws.OpcodeRow.cpxImm v
  | .cpxZp b => Laws.OpcodeRow.cpxZp b
  | .cpxAbs w => Laws.OpcodeRow.cpxAbs w
  | .cpyImm v => Laws.OpcodeRow.cpyImm v
  | .cpyZp b => Laws.OpcodeRow.cpyZp b
  | .cpyAbs w => Laws.OpcodeRow.cpyAbs w
  | .aslAcc => Laws.OpcodeRow.aslAcc
  | .aslZp b => Laws.OpcodeRow.aslZp b
  | .aslZpx b => Laws.OpcodeRow.aslZpx b
  | .aslAbs w => Laws.OpcodeRow.aslAbs w
  | .aslAbsx w => Laws.OpcodeRow.aslAbsx w
  | .lsrAcc => Laws.OpcodeRow.lsrAcc
  | .lsrZp b => Laws.OpcodeRow.lsrZp b
  | .lsrZpx b => Laws.OpcodeRow.lsrZpx b
  | .lsrAbs w => Laws.OpcodeRow.lsrAbs w
  | .lsrAbsx w => Laws.OpcodeRow.lsrAbsx w
  | .rolAcc => Laws.OpcodeRow.rolAcc
  | .rolZp b => Laws.OpcodeRow.rolZp b
  | .rolZpx b => Laws.OpcodeRow.rolZpx b
  | .rolAbs w => Laws.OpcodeRow.rolAbs w
  | .rolAbsx w => Laws.OpcodeRow.rolAbsx w
  | .rorAcc => Laws.OpcodeRow.rorAcc
  | .rorZp b => Laws.OpcodeRow.rorZp b
  | .rorZpx b => Laws.OpcodeRow.rorZpx b
  | .rorAbs w => Laws.OpcodeRow.rorAbs w
  | .rorAbsx w => Laws.OpcodeRow.rorAbsx w
  | .incZp b => Laws.OpcodeRow.incZp b
  | .incZpx b => Laws.OpcodeRow.incZpx b
  | .incAbs w => Laws.OpcodeRow.incAbs w
  | .incAbsx w => Laws.OpcodeRow.incAbsx w
  | .decZp b => Laws.OpcodeRow.decZp b
  | .decZpx b => Laws.OpcodeRow.decZpx b
  | .decAbs w => Laws.OpcodeRow.decAbs w
  | .decAbsx w => Laws.OpcodeRow.decAbsx w
  | .inx => Laws.OpcodeRow.inx
  | .iny => Laws.OpcodeRow.iny
  | .dex => Laws.OpcodeRow.dex
  | .dey => Laws.OpcodeRow.dey
  | .bcc off => Laws.OpcodeRow.bcc off
  | .bcs off => Laws.OpcodeRow.bcs off
  | .beq off => Laws.OpcodeRow.beq off
  | .bne off => Laws.OpcodeRow.bne off
  | .bmi off => Laws.OpcodeRow.bmi off
  | .bpl off => Laws.OpcodeRow.bpl off
  | .bvc off => Laws.OpcodeRow.bvc off
  | .bvs off => Laws.OpcodeRow.bvs off
  | .pha => Laws.OpcodeRow.pha
  | .pla => Laws.OpcodeRow.pla
  | .php => Laws.OpcodeRow.php
  | .plp => Laws.OpcodeRow.plp
  | .jsr target => Laws.OpcodeRow.jsr target
  | .rts => Laws.OpcodeRow.rts
  | .rti => Laws.OpcodeRow.rti
  | .brk => Laws.OpcodeRow.brk
  | .jmpAbs target => Laws.OpcodeRow.jmpAbs target
  | .jmpInd p => Laws.OpcodeRow.jmpInd p
  | .clc => Laws.OpcodeRow.clc
  | .sec => Laws.OpcodeRow.sec
  | .cld => Laws.OpcodeRow.cld
  | .sed => Laws.OpcodeRow.sed
  | .cli => Laws.OpcodeRow.cli
  | .sei => Laws.OpcodeRow.sei
  | .clv => Laws.OpcodeRow.clv
  | .nop => Laws.OpcodeRow.nop
  | .tax => Laws.OpcodeRow.tax
  | .tay => Laws.OpcodeRow.tay
  | .txa => Laws.OpcodeRow.txa
  | .tya => Laws.OpcodeRow.tya
  | .tsx => Laws.OpcodeRow.tsx
  | .txs => Laws.OpcodeRow.txs

/-- The row of an instruction's own opcode. -/
theorem exists_rowOf_opcode (i : Instr) :
    ∃ row, rowOf Config.defaultOps i.opcode = some row ∧ row.mnemonic = i.mnemonic ∧ row.mode = i.mode := by
  obtain ⟨hrow, -, -⟩ := opcodeRow i
  simpa using hrow

/-- Mnemonic and operand determine the instruction. -/
theorem assemble_of_eq {i : Instr} {mn : Mnemonic} {o : Operand} (hm : i.mnemonic = mn) (ho : i.operand = o) :
    assemble mn o = some i := by
  obtain ⟨-, hassemble, -⟩ := opcodeRow i
  rwa [hm, ho] at hassemble

theorem defaultOps_forms_nodup : (Config.defaultOps.map fun r => (r.mnemonic, r.mode)).Nodup := by
  decide +kernel

/-- In the default table a mnemonic and a format have one row (R86). -/
theorem row_eq_of_form_eq {p q : OpRow} (hp : p ∈ Config.defaultOps) (hq : q ∈ Config.defaultOps)
    (hm : p.mnemonic = q.mnemonic) (hmode : p.mode = q.mode) : p = q :=
  List.inj_on_of_nodup_map defaultOps_forms_nodup hp hq (by rw [hm, hmode])

/-- The opcode whose row an instruction was decoded from is the instruction's own. -/
theorem eq_opcode_of_rowOf {i : Instr} {op : Byte} {row : OpRow} (hrow : rowOf Config.defaultOps op = some row)
    (hm : i.mnemonic = row.mnemonic) (hmode : i.mode = row.mode) : op = i.opcode := by
  obtain ⟨own, hown, hom, homode⟩ := exists_rowOf_opcode i
  have h : row = own :=
    row_eq_of_form_eq (mem_of_rowOf hrow) (mem_of_rowOf hown) (hm.symm.trans hom.symm)
      (hmode.symm.trans homode.symm)
  rw [← opcode_of_rowOf hrow, ← opcode_of_rowOf hown, h]

/-- The opcodes without a row are the 105 bytes of R88. -/
theorem rowOf_defaultOps_eq_none_iff : ∀ op : Byte,
    rowOf Config.defaultOps op = none ↔ op ∈ Machine.illegalBytes := by
  decide +kernel

/-- The decoder gives back what the encoder wrote, and the bytes after it (R80 to R84). -/
theorem decode_encode (i : Instr) (rest : List Byte) :
    decode Config.defaultOps (encode i ++ rest) = .ok (i, rest) := by
  obtain ⟨row, hrow, hm, hmode⟩ := exists_rowOf_opcode i
  refine decode_eq_ok_iff.2 ⟨row, i.operand, hrow, ?take, ?assemble⟩
  case take =>
    rw [hmode]
    exact takeOperand_bytes_append i.operand rest
  case assemble => exact assemble_of_eq hm.symm rfl

/-- Settles O2: the row of the own opcode takes back the operand and assembles the instruction. -/
theorem decodeOfEncode : Obligations.DecodeOfEncode := decode_encode

/-- Settles O3: the operand bytes are those of the operand taken, and the opcode byte is the one whose row has the
instruction's mnemonic and format. -/
theorem encodeOfDecode : Obligations.EncodeOfDecode := by
  intro bs rest i h
  rcases bs with _ | ⟨op, bs⟩
  · cases h
  · obtain ⟨row, o, hrow, ho, hi⟩ := decode_eq_ok_iff.1 h
    obtain ⟨hm, hop⟩ := assemble_eq_some _ _ _ hi
    have hmode : i.mode = row.mode := by rw [Instr.mode, hop, takeOperand_mode _ _ _ _ ho]
    obtain ⟨-, -, hwf⟩ := opcodeRow i
    refine ⟨?_, hwf⟩
    rw [eq_bytes_append_of_takeOperand ho, eq_opcode_of_rowOf hrow hm hmode, encode, hop, List.cons_append]

/-- Settles O4: the rejection by name is the lack of a row, and the bytes without a row are the list. -/
theorem illegalBytesAreRejectedByName : Obligations.IllegalBytesAreRejectedByName :=
  fun op _ => decode_eq_illegalOpcode_iff.trans (rowOf_defaultOps_eq_none_iff op)

/-- Settles O1: each byte sequence is the encoding of its example. -/
theorem decodeOfTheAssemblerExamples : Obligations.DecodeOfTheAssemblerExamples :=
  ⟨decode_encode .clc [], decode_encode .aslAcc [], decode_encode (.ldaImm 0x10) [], decode_encode (.ldaZp 0x10) [],
    decode_encode (.ldaZpx 0x10) [], decode_encode (.ldxZpy 0x10) [], decode_encode (.jsr 0x4242) [],
    decode_encode (.ldaAbsx 0x12F0) [], decode_encode (.ldaAbsy 0x12F0) [], decode_encode (.jmpInd 0x30FF) [],
    decode_encode (.ldaIndx 0x20) [], decode_encode (.ldaIndy 0x20) [], decode_encode (.bne 0xF9) []⟩

end Sys2Proof
end

section
/-! Execute read in both directions: an instruction of a mnemonic and an operand answers the one state of its shape. -/

namespace Sys2Proof.Machine

/-- Each shape is what Execute answers: the mnemonic and the operand assemble to one instruction, and its arm of Execute
is that shared meaning. -/
theorem exec_of_shape {s t : State} {i : Instr} (h : ExecShape s i t) : exec i s = .next t := by
  cases h with
  | lda _ f hm ho | ldx _ f hm ho | ldy _ f hm ho | adc _ f hm ho | sbc _ f hm ho | bit _ f hm ho | cmp _ f hm ho
  | cpx _ f hm ho | cpy _ f hm ho | and_ _ f hm ho | ora_ _ f hm ho | eor_ _ f hm ho =>
    have hi := assemble_of_eq hm ho
    cases f with
    | imm v => cases hi <;> rfl
    | mem m => cases m <;> cases hi <;> rfl
  | sta _ m hm ho | stx _ m hm ho | sty _ m hm ho | inc _ m hm ho | dec _ m hm ho =>
    have hi := assemble_of_eq hm ho
    cases m <;> cases hi <;> rfl
  | asl _ f hm ho | lsr _ f hm ho | rol _ f hm ho | ror _ f hm ho =>
    have hi := assemble_of_eq hm ho
    cases f with
    | acc => cases hi; rfl
    | mem m => cases m <;> cases hi <;> rfl
  | _ => rfl

end Sys2Proof.Machine
end

section
/-! What no operation of Execute breaks, as one relation between an earlier and a later state: the configuration, READY,
the canonical form of memory, the bytes outside RAM and the start of LOG. `d` says whether device calls are allowed. -/

namespace Sys2Proof.Machine

/-- `t` follows `s` by bus transactions and register updates; with `d = false` no device was called meanwhile. -/
def State.Evolves (d : Bool) (s t : State) : Prop :=
  t.cfg = s.cfg ∧ t.ready = s.ready ∧ (s.mem.wf = true → t.mem.wf = true)
    ∧ (∀ a : Word, regionOf s.cfg a ≠ .ram → t.mem.read a.toNat = s.mem.read a.toNat)
    ∧ (∃ es, t.log = s.log ++ es ∧ (d = false → ∀ e ∈ es, Event.isDeviceCall e = false))
    ∧ (d = false → t.draws = s.draws)

variable {d : Bool} {s t u : State} {i : Instr}

theorem State.Evolves.refl (d : Bool) (s : State) : s.Evolves d s :=
  ⟨rfl, rfl, id, fun _ _ => rfl, ⟨[], by simp⟩, fun _ => rfl⟩

theorem State.Evolves.trans (hst : s.Evolves d t) (htu : t.Evolves d u) : s.Evolves d u := by
  obtain ⟨cfg₁, ready₁, wf₁, read₁, ⟨es₁, log₁, calls₁⟩, draws₁⟩ := hst
  obtain ⟨cfg₂, ready₂, wf₂, read₂, ⟨es₂, log₂, calls₂⟩, draws₂⟩ := htu
  refine ⟨cfg₂.trans cfg₁, ready₂.trans ready₁, wf₂ ∘ wf₁, fun a ha => ?_, ⟨es₁ ++ es₂, ?_, fun hd e he => ?_⟩,
    fun hd => (draws₂ hd).trans (draws₁ hd)⟩
  · exact (read₂ a (cfg₁ ▸ ha)).trans (read₁ a ha)
  · rw [log₂, log₁, List.append_assoc]
  · exact (List.mem_append.1 he).elim (calls₁ hd e) (calls₂ hd e)

/-- One event more in LOG, which is no device call unless those are allowed. -/
theorem State.evolves_emit {e : Event} (he : d = false → Event.isDeviceCall e = false) : s.Evolves d (s.emit e) :=
  ⟨rfl, rfl, id, fun _ _ => rfl, ⟨[e], rfl, fun hd => by simpa using he hd⟩, fun _ => rfl⟩

/-- The event and the halt of BRK (60_exceptions.md R241). -/
theorem State.Evolves.brkHalt (h : s.Evolves d t) (a : Word) :
    s.Evolves d (((t.emit (.brkHalt a)).raiseHalt .brk).setExtra 0) :=
  have logged : t.Evolves d (t.emit (.brkHalt a)) := State.evolves_emit fun _ => rfl
  h.trans logged

/-- A bus read calls a device only under the MMIO bit of AT (20_memory.md R44, R47). -/
theorem State.evolves_afterRead (hd : s.accessType.getLsbD 2 = true → d = true) (a : Word) :
    s.Evolves d (s.afterRead a) := by
  rw [← State.mayMmio_eq] at hd
  obtain e | ⟨hm, i, e⟩ | ⟨-, e⟩ | ⟨-, e⟩ := s.afterRead_cases a <;> rw [e]
  · exact .refl d s
  · have drawn : s.Evolves d s.drawn := ⟨rfl, rfl, id, fun _ _ => rfl, ⟨[], by simp⟩, by simp [hd hm]⟩
    exact drawn.trans (State.evolves_emit (by simp [hd hm]))
  · exact State.evolves_emit fun _ => rfl
  · exact State.evolves_emit fun _ => rfl

/-- A bus write stores in RAM only, and calls a device only under the MMIO bit of AT (R45 to R47). -/
theorem State.evolves_busWrite (hd : s.accessType.getLsbD 2 = true → d = true) (a : Word) (v : Byte) :
    s.Evolves d (s.busWrite a v) := by
  rw [← State.mayMmio_eq] at hd
  obtain ⟨hram, e⟩ | ⟨-, e⟩ | ⟨-, hm, i, e⟩ | ⟨-, -, e⟩ | ⟨-, -, e⟩ := s.busWrite_cases a v
  · refine ⟨by simp, by simp, s.busWrite_wf a v, fun b hb => ?_, ⟨[], by simp [e]⟩, by simp⟩
    rw [State.busWrite_read, if_neg]
    rintro ⟨rfl, -⟩
    exact hb hram
  all_goals rw [e]
  · exact State.evolves_emit fun _ => rfl
  · exact State.evolves_emit (by simp [hd hm])
  · exact State.evolves_emit fun _ => rfl
  · exact State.evolves_emit fun _ => rfl

/-! ### The compound operations, which write registers besides -/

theorem State.evolves_afterPair (hd : s.accessType.getLsbD 2 = true → d = true) (lo hi : Word) :
    s.Evolves d (s.afterPair lo hi) :=
  (State.evolves_afterRead hd lo).trans (State.evolves_afterRead (by simpa using hd) hi)

theorem State.evolves_afterEa (hd : s.accessType.getLsbD 2 = true → d = true) (m : MemForm) :
    s.Evolves d (s.afterEa m) := by
  unfold State.afterEa
  split
  · exact State.evolves_afterPair hd _ _
  · exact .refl d s

theorem State.evolves_afterCell (hd : s.accessType.getLsbD 2 = true → d = true) (m : MemForm) :
    s.Evolves d (s.afterCell m) :=
  (State.evolves_afterEa hd m).trans (State.evolves_afterRead (by simpa using hd) _)

theorem State.evolves_afterOperand (hd : s.accessType.getLsbD 2 = true → d = true) (f : ReadForm) :
    s.Evolves d (s.afterOperand f) := by
  cases f with
  | imm v => exact .refl d s
  | mem m => exact State.evolves_afterCell hd m

theorem State.evolves_storeByte (hd : s.accessType.getLsbD 2 = true → d = true) (m : MemForm) (v : Byte) :
    s.Evolves d (s.storeByte m v) :=
  (State.evolves_afterEa hd m).trans (State.evolves_busWrite (by simpa using hd) _ v)

theorem State.evolves_rewriteCell (hd : s.accessType.getLsbD 2 = true → d = true) (m : MemForm) (v : Byte) :
    s.Evolves d ((s.afterCell m).busWrite (s.ea m) v) :=
  (State.evolves_afterCell hd m).trans (State.evolves_busWrite (by simpa using hd) _ v)

theorem State.evolves_shift (hd : s.accessType.getLsbD 2 = true → d = true) (f : RmwForm)
    (f' : Byte → Bool → Byte × Bool) : s.Evolves d (s.shift f f') := by
  cases f with
  | acc => exact State.Evolves.refl d s
  | mem m => exact State.evolves_rewriteCell hd m _

theorem State.evolves_branch (d : Bool) (s : State) (c : Bool) (off : Byte) : s.Evolves d (s.branch c off) := by
  rw [State.branch_eq]
  exact State.Evolves.refl d s

theorem State.evolves_push (hd : s.accessType.getLsbD 2 = true → d = true) (v : Byte) : s.Evolves d (s.push v) :=
  State.evolves_busWrite hd (stackAddr s.sp) v

theorem State.evolves_pushWord (hd : s.accessType.getLsbD 2 = true → d = true) (w : Word) :
    s.Evolves d (s.pushWord w) :=
  (State.evolves_push hd _).trans (State.evolves_push (by simpa using hd) _)

theorem State.evolves_afterPop (hd : s.accessType.getLsbD 2 = true → d = true) : s.Evolves d s.afterPop :=
  State.evolves_afterRead (s := s.setSP (s.sp + 1)) hd _

theorem State.evolves_afterPopWord (hd : s.accessType.getLsbD 2 = true → d = true) : s.Evolves d s.afterPopWord :=
  (State.evolves_afterPop hd).trans (State.evolves_afterPop (by simpa using hd))

theorem State.evolves_enterTrap (hd : s.accessType.getLsbD 2 = true → d = true) (pc0 : Word) :
    s.Evolves d (s.enterTrap pc0) :=
  ((State.evolves_pushWord hd _).trans (State.evolves_push (by simpa using hd) (pushedStatus s.ps))).trans
    (State.evolves_afterPair (s := ((s.pushWord (pc0 + 2)).push (pushedStatus s.ps)).putFlag .I true)
      (by simpa using hd) _ _)

theorem State.evolves_returnFromTrap (hd : s.accessType.getLsbD 2 = true → d = true) :
    s.Evolves d s.returnFromTrap :=
  (State.evolves_afterPop hd).trans
    (State.evolves_afterPopWord (s := s.afterPop.setPS s.popByte) (by simpa using hd))

/-- Execute evolves the state: every shape is made of the operations above and register updates. -/
theorem ExecShape.evolves (h : ExecShape s i t) (hd : s.accessType.getLsbD 2 = true → d = true) :
    s.Evolves d t := by
  cases h with
  | lda _ f | ldx _ f | ldy _ f | adc _ f | sbc _ f | bit _ f | cmp _ f | cpx _ f | cpy _ f | and_ _ f | ora_ _ f
  | eor_ _ f => exact State.evolves_afterOperand hd f
  | sta _ m | stx _ m | sty _ m => exact State.evolves_storeByte hd m _
  | inc _ m | dec _ m => exact State.evolves_rewriteCell hd m _
  | asl _ f | lsr _ f | rol _ f | ror _ f => exact State.evolves_shift hd f _
  | bcc off | bcs off | beq off | bne off | bmi off | bpl off | bvc off | bvs off =>
    exact State.evolves_branch d s _ off
  | pha | php => exact State.evolves_push hd _
  | pla | plp => exact State.evolves_afterPop hd
  | jsr target => exact State.evolves_pushWord hd _
  | rts => exact State.evolves_afterPopWord hd
  | rti => exact State.evolves_returnFromTrap hd
  | brk => exact (State.evolves_enterTrap hd (s.pc - 1)).brkHalt (s.pc - 1)
  | jmpInd p => exact State.evolves_afterPair hd p (samePageNext p)
  | _ => exact State.Evolves.refl d s

theorem State.evolves_afterFetch (hd : s.accessType.getLsbD 2 = true → d = true) : s.Evolves d s.afterFetch :=
  State.evolves_afterRead hd s.pc

theorem State.evolves_afterFetches (n : Nat) (hd : s.accessType.getLsbD 2 = true → d = true) :
    s.Evolves d (State.afterFetches n s) := by
  induction n generalizing s with
  | zero => exact .refl d s
  | succ n ih => exact (State.evolves_afterFetch hd).trans (ih (by simpa using hd))

end Sys2Proof.Machine
end

section
/-! The frame of Execute: the flags, the halt, the registers, memory and the bookkeeping an instruction leaves alone. -/

namespace Sys2Proof.Machine

variable {s t : State} {i : Instr}

/-- Execute halts in BRK and nowhere else (60_exceptions.md R241, R245). -/
theorem ExecShape.halted_eq (h : ExecShape s i t) :
    (t.halted, t.haltReason) = if i.mnemonic = .BRK then (true, .brk) else (s.halted, s.haltReason) := by
  cases h with
  | brk => rfl
  | lda _ f hm | ldx _ f hm | ldy _ f hm => simp [hm, State.lda_eq, State.ldx_eq, State.ldy_eq]
  | adc _ f hm | sbc _ f hm | bit _ f hm => simp [hm, State.adc_eq, State.sbc_eq, State.bit_eq]
  | cmp _ f hm | cpx _ f hm | cpy _ f hm =>
    simp [hm, State.cmp, State.cpx, State.cpy, State.compare_eq]
  | and_ _ f hm | ora_ _ f hm | eor_ _ f hm =>
    simp [hm, State.and, State.ora, State.eor, State.logicResult_eq]
  | sta _ m hm | stx _ m hm | sty _ m hm => simp [hm, State.sta, State.stx, State.sty, State.storeByte_eq]
  | inc _ m hm | dec _ m hm => simp [hm, State.inc, State.dec, State.bumpCell_eq]
  | asl _ f hm | lsr _ f hm | rol _ f hm | ror _ f hm =>
    cases f <;> simp [hm, State.asl, State.lsr, State.rol, State.ror, State.shift_acc_eq, State.shift_mem_eq]
  | bcc | bcs | beq | bne | bmi | bpl | bvc | bvs => simp [Instr.mnemonic, State.branch_eq]
  | rti => simp [Instr.mnemonic, State.returnFromTrap_eq]
  | _ => simp [Instr.mnemonic]

/-- The registers and memory, each with the instructions that may write it (10_state.md R10 to R13, R24). -/
def State.AgreesOutsideWrites (i : Instr) (s t : State) : Prop :=
  (mayWriteA i = false → t.a = s.a) ∧ (mayWriteX i = false → t.x = s.x)
    ∧ (mayWriteY i = false → t.y = s.y) ∧ (mayWriteSP i = false → t.sp = s.sp)
    ∧ (mayWritePC i = false → t.pc = s.pc) ∧ (mayWriteMem i = false → t.mem = s.mem)

/-- The fields no instruction writes: AT, the counters, READY, `started` and the configuration. -/
def State.SameBookkeeping (s t : State) : Prop :=
  t.accessType = s.accessType ∧ t.budget = s.budget ∧ t.total = s.total ∧ t.ready = s.ready
    ∧ t.started = s.started ∧ t.cfg = s.cfg

/-- Execute writes no register and no memory but those its instruction may write. -/
theorem ExecShape.agreesOutsideWrites (h : ExecShape s i t) : s.AgreesOutsideWrites i t := by
  unfold State.AgreesOutsideWrites
  cases h with
  | lda _ f hm | ldx _ f hm | ldy _ f hm =>
    simp [mayWriteA, mayWriteX, mayWriteY, hm, State.lda_eq, State.ldx_eq, State.ldy_eq]
  | adc _ f hm | sbc _ f hm | bit _ f hm => simp [mayWriteA, hm, State.adc_eq, State.sbc_eq, State.bit_eq]
  | cmp _ f hm | cpx _ f hm | cpy _ f hm => simp [State.cmp, State.cpx, State.cpy, State.compare_eq]
  | and_ _ f hm | ora_ _ f hm | eor_ _ f hm =>
    simp [mayWriteA, hm, State.and, State.ora, State.eor, State.logicResult_eq]
  | sta _ m hm | stx _ m hm | sty _ m hm =>
    simp [mayWriteMem, hm, State.sta, State.stx, State.sty, State.storeByte_eq]
  | inc _ m hm | dec _ m hm => simp [mayWriteMem, hm, State.inc, State.dec, State.bumpCell_eq]
  | asl _ f hm ho | lsr _ f hm ho | rol _ f hm ho | ror _ f hm ho =>
    cases f with
    | acc =>
      simp [mayWriteA, hm, ho, RmwForm.operand, State.asl, State.lsr, State.rol, State.ror, State.shift_acc_eq]
    | mem m =>
      simp [mayWriteMem, hm, ho, RmwForm.operand, State.asl, State.lsr, State.rol, State.ror, State.shift_mem_eq]
  | bcc | bcs | beq | bne | bmi | bpl | bvc | bvs => simp [mayWritePC, Instr.mnemonic, State.branch_eq]
  | clc | sec | cld | sed | cli | sei | clv | nop => simp
  | tax | tay | txa | tya | tsx | txs | inx | iny | dex | dey =>
    simp [mayWriteA, mayWriteX, mayWriteY, mayWriteSP, Instr.mnemonic]
  | pha | php | pla | plp => simp [mayWriteA, mayWriteSP, mayWriteMem, Instr.mnemonic]
  | jsr | jmpAbs | jmpInd | rts => simp [mayWriteSP, mayWritePC, mayWriteMem, Instr.mnemonic]
  | rti | brk =>
    simp [mayWriteSP, mayWritePC, mayWriteMem, Instr.mnemonic, State.returnFromTrap_eq, State.enterTrap_eq]

/-- Execute writes no bookkeeping field. -/
theorem ExecShape.sameBookkeeping (h : ExecShape s i t) : s.SameBookkeeping t := by
  unfold State.SameBookkeeping
  cases h with
  | lda | ldx | ldy => simp [State.lda_eq, State.ldx_eq, State.ldy_eq]
  | adc | sbc | bit => simp [State.adc_eq, State.sbc_eq, State.bit_eq]
  | cmp | cpx | cpy => simp [State.cmp, State.cpx, State.cpy, State.compare_eq]
  | and_ | ora_ | eor_ => simp [State.and, State.ora, State.eor, State.logicResult_eq]
  | sta | stx | sty => simp [State.sta, State.stx, State.sty, State.storeByte_eq]
  | inc | dec => simp [State.inc, State.dec, State.bumpCell_eq]
  | asl _ f | lsr _ f | rol _ f | ror _ f =>
    cases f <;> simp [State.asl, State.lsr, State.rol, State.ror, State.shift_acc_eq, State.shift_mem_eq]
  | bcc | bcs | beq | bne | bmi | bpl | bvc | bvs => simp [State.branch_eq]
  | rti => simp [State.returnFromTrap_eq]
  | brk => simp [State.enterTrap_eq]
  | _ => simp

/-- Settles O15: Execute always answers, in one of the shapes. -/
theorem onlyBrkRaisesAHalt : Obligations.OnlyBrkRaisesAHalt := by
  intro i s
  obtain ⟨t, ht, shape⟩ := exec_shape i s
  exact ⟨t, ht, shape.halted_eq⟩

/-- Settles O17: the frame of PS, read off the shape of the outcome. -/
theorem flagsChangeOnlyByTheirWriters : Obligations.FlagsChangeOnlyByTheirWriters :=
  fun i s t _ h hf => (shape_of_exec i s t h).flagOf_eq_of_not_written hf

/-- Settles O19: the frame of the registers and memory, and the bookkeeping no shape writes. -/
theorem registersAndMemoryChangeOnlyByTheirWriters : Obligations.RegistersAndMemoryChangeOnlyByTheirWriters := by
  intro i s t h
  have shape := shape_of_exec i s t h
  obtain ⟨a, x, y, sp, pc, mem⟩ := shape.agreesOutsideWrites
  exact ⟨a, x, y, sp, pc, mem, shape.sameBookkeeping⟩

end Sys2Proof.Machine
end

section
/-! The fetch of a mapped opcode (40_engine_and_addressing.md R101): its operand bytes are as many as the format has,
so decoding leaves none over, and in a well-formed table it succeeds. -/

namespace Sys2Proof

/-- An operand has one byte less than an instruction of its format (30_encoding.md R81). -/
theorem length_operand_bytes (o : Operand) : o.bytes.length = o.mode.length - 1 := by
  rcases o with _ | _ | v | m | p | off
  case mem => cases m <;> rfl
  all_goals rfl

/-- Every instruction has its opcode byte (R80). -/
theorem Mode.one_le_length (m : Mode) : 1 ≤ m.length := by
  cases m <;> decide

/-- Every format finds its operand in as many bytes as it has, and leaves none over. -/
theorem exists_takeOperand_of_length {m : Mode} {bs : List Byte} (h : bs.length = m.length - 1) :
    ∃ o, takeOperand m bs = some (o, []) ∧ o.mode = m := by
  cases m with
  | imp | acc =>
    obtain rfl := List.eq_nil_of_length_eq_zero h
    exact ⟨_, rfl, rfl⟩
  | imm | zp | zpx | zpy | indx | indy | rel =>
    obtain ⟨b, rfl⟩ := List.length_eq_one_iff.1 h
    exact ⟨_, rfl, rfl⟩
  | abs | absx | absy | ind =>
    obtain ⟨lo, hi, rfl⟩ := List.length_eq_two.1 h
    exact ⟨_, rfl, rfl⟩

/-- A mnemonic and an operand make an instruction exactly when the mnemonic has the operand's format: the cells of R86's
table, 56 by 13. -/
theorem isSome_assemble (mn : Mnemonic) (o : Operand) : (assemble mn o).isSome = mn.modes.contains o.mode := by
  rcases o with _ | _ | v | m | p | off
  case mem => cases m <;> cases mn <;> rfl
  all_goals cases mn <;> rfl

/-- Every format a mnemonic has makes an instruction with it (R86). -/
theorem exists_assemble_of_mem_modes {mn : Mnemonic} {o : Operand} (h : o.mode ∈ mn.modes) :
    ∃ i, assemble mn o = some i := by
  rw [← Option.isSome_iff_exists, isSome_assemble]
  simpa using h

/-- A row of a well-formed configuration names an existing form and costs at least one cycle (R86, R291). -/
theorem row_of_wellFormed {c : Config} {row : OpRow} (hwf : c.wellFormed = true) (hrow : row ∈ c.ops) :
    row.mode ∈ row.mnemonic.modes ∧ 1 ≤ row.base := by
  simp only [Config.wellFormed, Bool.and_eq_true, List.all_eq_true] at hwf
  obtain ⟨⟨-, hrows⟩, -⟩ := hwf
  simpa [OpRow.wellFormed] using hrows row hrow

/-- A configuration with one device more than 64, or with its last device's range reversed, is ill formed (R54). -/
theorem Config.wellFormed_append_eq_false {c : Config} {d : Device}
    (h : 64 ≤ c.devices.length ∨ d.hi.toNat < d.lo.toNat) :
    Config.wellFormed { c with devices := c.devices ++ [d] } = false := by
  rcases h with hmany | hreversed
  · have : ¬ c.devices.length + 1 ≤ Config.maxDevices := by
      rw [Config.maxDevices]
      omega
    simp [Config.wellFormed, this]
  · have : ¬ d.lo ≤ d.hi := by
      rw [BitVec.le_def]
      omega
    simp [Config.wellFormed, Device.wellFormed, this]

/-- The default configuration is well formed. -/
theorem Config.wellFormed_default : Config.default.wellFormed = true := by
  decide +kernel

/-- The address after the next `n` bytes of the one that follows `w`. -/
theorem add_one_add_ofNat (w : Word) (n : Nat) : w + 1 + BitVec.ofNat 16 n = w + BitVec.ofNat 16 (n + 1) := by
  rw [BitVec.add_assoc, Nat.add_comm n 1, BitVec.ofNat_add]
  rfl

end Sys2Proof
end

section
/-! Everything a step can do (40_engine_and_addressing.md R101, R109): a refusal, or one of three next states. -/

namespace Sys2Proof.Machine

variable {s t u : State} {row : OpRow} {i : Instr}

theorem State.length_fetchBytes (n : Nat) (s : State) : (State.fetchBytes n s).length = n := by
  induction n generalizing s with
  | zero => rfl
  | succ n ih => simp [State.fetchBytes, ih]

/-- The operand bytes of a row are exactly its format's operand. -/
theorem State.exists_takeOperand_operandBytes (s : State) (row : OpRow) :
    ∃ o, takeOperand row.mode (s.operandBytes row) = some (o, []) ∧ o.mode = row.mode :=
  exists_takeOperand_of_length (State.length_fetchBytes _ _)

/-- At a mapped opcode the bytes at PC are an instruction, or its row has a form that does not exist. -/
theorem State.fetches_or_no_form (hrow : rowOf s.cfg.ops s.opcodeByte = some row) :
    (∃ i, s.Fetches row i)
      ∨ decode s.cfg.ops (s.opcodeByte :: s.operandBytes row) = .error (.noSuchForm s.opcodeByte) := by
  obtain ⟨o, ho, -⟩ := s.exists_takeOperand_operandBytes row
  cases hi : assemble row.mnemonic o with
  | none => exact .inr (by simp [decode, hrow, ho, hi])
  | some i => exact .inl ⟨i, hrow, decode_eq_ok_iff.2 ⟨row, o, hrow, ho, hi⟩⟩

/-- In a well-formed table every row makes an instruction (log entry 13). -/
theorem State.exists_fetches_of_wellFormed (hwf : s.cfg.wellFormed = true)
    (hrow : rowOf s.cfg.ops s.opcodeByte = some row) : ∃ i, s.Fetches row i := by
  obtain ⟨o, ho, hmode⟩ := s.exists_takeOperand_operandBytes row
  obtain ⟨hform, -⟩ := row_of_wellFormed hwf (mem_of_rowOf hrow)
  obtain ⟨i, hi⟩ := exists_assemble_of_mem_modes (hmode ▸ hform)
  exact ⟨i, hrow, decode_eq_ok_iff.2 ⟨row, o, hrow, ho, hi⟩⟩

/-- The next states of a step: the halted state itself, the stop at an unmapped opcode, or Execute and the close. -/
inductive StepShape (s : State) : State → Prop where
  | halted : s.halted = true → StepShape s s
  | unmapped : s.Running → rowOf s.cfg.ops s.opcodeByte = none →
      StepShape s (s.afterOpcode.stopIllegal s.opcodeByte s.pc)
  | mapped (row : OpRow) (i : Instr) (u : State) : s.Running → s.Fetches row i →
      exec i (s.afterInstruction row) = .next u → StepShape s (u.closeStep row)

theorem step_of_no_form (hs : s.Running) (hrow : rowOf s.cfg.ops s.opcodeByte = some row)
    (herr : decode s.cfg.ops (s.opcodeByte :: s.operandBytes row) = .error (.noSuchForm s.opcodeByte)) :
    step s = .refused .badConfiguration := by
  obtain ⟨hready, hhalted⟩ := hs
  simp [step, State.fetchPhase, hready, hhalted, hrow, herr]

/-- Execute completes, so the step of a fetched instruction does. -/
theorem exists_step_of_fetches (hs : s.Running) (hf : s.Fetches row i) :
    ∃ u, exec i (s.afterInstruction row) = .next u ∧ step s = .next (u.closeStep row) := by
  obtain ⟨u, hu, -⟩ := exec_shape i (s.afterInstruction row)
  exact ⟨u, hu, by rw [step_of_fetches hs hf, hu, finishStep]⟩

/-- A step is refused or answers a next state of one of the shapes. -/
theorem step_cases (s : State) : (∃ r, step s = .refused r) ∨ ∃ t, step s = .next t ∧ StepShape s t := by
  cases hready : s.ready with
  | false => exact .inl ⟨_, step_of_not_ready hready⟩
  | true =>
    cases hhalted : s.halted with
    | true => exact .inr ⟨s, step_of_halted hready hhalted, .halted hhalted⟩
    | false =>
      have hs : s.Running := ⟨hready, hhalted⟩
      cases hrow : rowOf s.cfg.ops s.opcodeByte with
      | none => exact .inr ⟨_, step_of_unmapped hs hrow, .unmapped hs hrow⟩
      | some row =>
        obtain ⟨i, hf⟩ | herr := State.fetches_or_no_form hrow
        · obtain ⟨u, hu, hstep⟩ := exists_step_of_fetches hs hf
          exact .inr ⟨_, hstep, .mapped row i u hs hf hu⟩
        · exact .inl ⟨_, step_of_no_form hs hrow herr⟩

/-- A next state of a step has one of the shapes. -/
theorem shape_of_step (h : step s = .next t) : StepShape s t := by
  obtain ⟨r, hr⟩ | ⟨t', ht', shape⟩ := step_cases s
  · cases hr ▸ h
  · cases ht' ▸ h
    exact shape

/-- A step never faults (60_exceptions.md R243). -/
theorem step_ne_fault (s : State) (r : Fault) : step s ≠ .fault r := by
  obtain ⟨q, hq⟩ | ⟨t, ht, -⟩ := step_cases s <;> simp [*]

/-- A ready core with a well-formed configuration completes its step. -/
theorem exists_step_of_ready (hready : s.ready = true) (hwf : s.cfg.wellFormed = true) : ∃ t, step s = .next t := by
  cases hhalted : s.halted with
  | true => exact ⟨s, step_of_halted hready hhalted⟩
  | false =>
    have hs : s.Running := ⟨hready, hhalted⟩
    cases hrow : rowOf s.cfg.ops s.opcodeByte with
    | none => exact ⟨_, step_of_unmapped hs hrow⟩
    | some row =>
      obtain ⟨i, hf⟩ := State.exists_fetches_of_wellFormed hwf hrow
      obtain ⟨u, -, hstep⟩ := exists_step_of_fetches hs hf
      exact ⟨_, hstep⟩

/-- The fetch of a whole instruction moves PC past it, sets AT and starts execution; else only LOG and the draw counter
change (R101, R102, R104). -/
theorem State.afterInstruction_eq (s : State) (row : OpRow) :
    s.afterInstruction row
      = { s with
          pc := s.pc + BitVec.ofNat 16 row.mode.length
          accessType := row.access
          log := (s.afterInstruction row).log
          draws := (s.afterInstruction row).draws
          started := true } := by
  have hpc : s.pc + 1 + BitVec.ofNat 16 (row.mode.length - 1) = s.pc + BitVec.ofNat 16 row.mode.length := by
    rw [add_one_add_ofNat, Nat.sub_add_cancel row.mode.one_le_length]
  unfold State.afterInstruction
  rw [State.afterFetches_eq, ← hpc]
  ext1 <;> simp [State.atOperands, State.afterOpcode, State.openStep]

/-- Settles O5: the fetch phase runs the decoded instruction, and the fetch is one record update. -/
theorem stepRunsTheDecodedInstruction : Obligations.StepRunsTheDecodedInstruction :=
  fun s row _ hs hf => ⟨step_of_fetches hs hf, s.afterInstruction_eq row⟩

/-- Settles O10: a step is refused or answers, and a well-formed table leaves nothing to refuse. -/
theorem stepAlwaysCompletes : Obligations.StepAlwaysCompletes :=
  ⟨step_ne_fault, fun _ => exists_step_of_ready⟩

end Sys2Proof.Machine
end

section
/-! What every step keeps: the relation `Evolves` from the fetch to the close, the halt and the counters. -/

namespace Sys2Proof.Machine

variable {d : Bool} {s t u : State} {row : OpRow} {i : Instr}

theorem State.evolves_afterOpcode (hfetch : s.cfg.fetchAccess.getLsbD 2 = true → d = true) :
    s.Evolves d s.afterOpcode :=
  State.evolves_afterFetch (s := s.openStep) hfetch

theorem State.evolves_afterInstruction (hfetch : s.cfg.fetchAccess.getLsbD 2 = true → d = true)
    (hrow : row.access.getLsbD 2 = true → d = true) : s.Evolves d (s.afterInstruction row) :=
  (State.evolves_afterOpcode hfetch).trans (State.evolves_afterFetches (s := s.atOperands row) _ hrow)

/-- The stop at an unmapped opcode logs it, which is no device call (60_exceptions.md R242). -/
theorem State.evolves_stopIllegal (d : Bool) (s : State) (op : Byte) (a : Word) :
    s.Evolves d (s.stopIllegal op a) := by
  have logged : s.Evolves d (s.emit (.illegalOpcode op a)) := State.evolves_emit fun _ => rfl
  rw [State.stopIllegal_eq]
  exact logged

/-- The whole step at an unmapped opcode as one record (R101, R242). -/
theorem State.stopIllegal_afterOpcode_eq (s : State) :
    s.afterOpcode.stopIllegal s.opcodeByte s.pc
      = { s with
          pc := s.pc + 1
          accessType := Config.noAccess
          budget := s.budget - 1
          total := s.total + 1
          halted := true
          haltReason := .illegalOpcode s.opcodeByte
          log := s.afterOpcode.log ++ [.illegalOpcode s.opcodeByte s.pc]
          draws := s.afterOpcode.draws
          started := true } := by
  rw [State.stopIllegal_eq, s.afterOpcode_eq]

@[simp] theorem State.afterInstruction_accessType (s : State) (row : OpRow) :
    (s.afterInstruction row).accessType = row.access := by
  rw [State.afterInstruction_eq]

/-- A step evolves the state, with no device call when neither AccessType it uses has the MMIO bit (20_memory.md
R47). -/
theorem StepShape.evolves (h : StepShape s t) (hfetch : s.cfg.fetchAccess.getLsbD 2 = true → d = true)
    (hrow : ∀ row, rowOf s.cfg.ops s.opcodeByte = some row → row.access.getLsbD 2 = true → d = true) :
    s.Evolves d t := by
  cases h with
  | halted => exact .refl d s
  | unmapped => exact (State.evolves_afterOpcode hfetch).trans (State.evolves_stopIllegal d _ _ _)
  | mapped row i u hs hf hu =>
    obtain ⟨hfound, -⟩ := hf
    have haccess := hrow row hfound
    have executed : (s.afterInstruction row).Evolves d u :=
      (shape_of_exec _ _ _ hu).evolves (by simpa using haccess)
    rw [State.closeStep_eq]
    exact (State.evolves_afterInstruction hfetch haccess).trans executed

/-- A step evolves the state, device calls allowed. -/
theorem evolves_of_step (h : step s = .next t) : s.Evolves true t :=
  (shape_of_step h).evolves (fun _ => rfl) (fun _ _ _ => rfl)

/-- Execute in the state after the fetch finds the counters and the configuration of the state before it. -/
theorem sameCounters_of_exec (hu : exec i (s.afterInstruction row) = .next u) :
    u.budget = s.budget ∧ u.total = s.total := by
  obtain ⟨-, budget, total, -⟩ := (shape_of_exec _ _ _ hu).sameBookkeeping
  rw [State.afterInstruction_eq] at budget total
  exact ⟨budget, total⟩

/-- The close of the step of a fetched instruction charges the counters of the state before the step (R107). -/
theorem closeStep_of_exec (hu : exec i (s.afterInstruction row) = .next u) :
    u.closeStep row
      = { u with
          accessType := Config.noAccess
          budget := s.budget - ((stepCost row u.extra : Nat) : Int)
          total := s.total + stepCost row u.extra
          extra := 0 } := by
  obtain ⟨budget, total⟩ := sameCounters_of_exec hu
  rw [State.closeStep_eq, budget, total]

/-- A step takes from BUDGET what it adds to TOTAL (R107). -/
theorem StepShape.charges (h : StepShape s t) : ∃ n : Nat, t.budget = s.budget - n ∧ t.total = s.total + n := by
  cases h with
  | halted => exact ⟨0, by simp, rfl⟩
  | unmapped => exact ⟨1, by simp [State.stopIllegal_afterOpcode_eq]⟩
  | mapped row i u hs hf hu => exact ⟨stepCost row u.extra, by simp [closeStep_of_exec hu]⟩

/-- In a well-formed configuration a step of a running core costs at least one cycle (70_reset_and_hazards.md R291). -/
theorem StepShape.budget_lt (h : StepShape s t) (hhalted : s.halted = false) (hwf : s.cfg.wellFormed = true) :
    t.budget < s.budget := by
  cases h with
  | halted hh => simp [hh] at hhalted
  | unmapped => simp [State.stopIllegal_afterOpcode_eq]
  | mapped row i u hs hf hu =>
    obtain ⟨hfound, -⟩ := hf
    obtain ⟨-, hbase⟩ := row_of_wellFormed hwf (mem_of_rowOf hfound)
    have hcost := base_le_stepCost row u.extra
    simp only [closeStep_of_exec hu]
    omega

/-- Between steps AT is NONE and no penalty is pending (R102, R106). -/
theorem StepShape.idle (h : StepShape s t) (haccess : s.accessType = Config.noAccess) (hextra : s.extra = 0) :
    t.accessType = Config.noAccess ∧ t.extra = 0 := by
  cases h with
  | halted => exact ⟨haccess, hextra⟩
  | unmapped =>
    rw [State.stopIllegal_afterOpcode_eq]
    exact ⟨rfl, hextra⟩
  | mapped row i u hs hf hu => exact ⟨rfl, rfl⟩

/-- The halt flag and the reason agree (10_state.md R29): a step halts with BRK or an illegal opcode, or leaves both. -/
theorem StepShape.halt_agrees (h : StepShape s t) (hagree : s.halted = false ↔ s.haltReason = .none) :
    t.halted = false ↔ t.haltReason = .none := by
  cases h with
  | halted => exact hagree
  | unmapped => simp [State.stopIllegal_eq]
  | mapped row i u hs hf hu =>
    have hhalt := (shape_of_exec _ _ _ hu).halted_eq
    rw [State.afterInstruction_eq] at hhalt
    simp only [State.closeStep_eq]
    split at hhalt <;> simp_all

/-- Settles O11: each part of the invariant by its own step lemma; memory and the configuration by `Evolves`. -/
theorem stepKeepsTheInvariant : Obligations.StepKeepsTheInvariant := by
  rintro s t ⟨hwf, haccess, hextra, hagree, hcfg⟩ hstep
  have shape := shape_of_step hstep
  obtain ⟨cfg, -, wf, -⟩ := evolves_of_step hstep
  obtain ⟨access, extra⟩ := shape.idle haccess hextra
  exact ⟨wf hwf, access, extra, shape.halt_agrees hagree, cfg ▸ hcfg⟩

/-- Settles O12: the fields of the reset state are literals. -/
theorem resetMeetsTheInvariant : Obligations.ResetMeetsTheInvariant :=
  ⟨Memory.wf_reset, rfl, rfl, by simp [State.reset], Config.wellFormed_default⟩

/-- Settles O13: `Evolves` keeps every byte outside RAM. -/
theorem onlyRamBytesChange : Obligations.OnlyRamBytesChange := by
  intro s t a hstep
  obtain ⟨-, -, -, nonRam, -⟩ := evolves_of_step hstep
  exact nonRam a

/-- Settles O14: `Evolves` and the charge of a step. -/
theorem stepKeepsConfigurationAndExtendsLog : Obligations.StepKeepsConfigurationAndExtendsLog := by
  intro s t hstep
  obtain ⟨cfg, ready, -, -, ⟨es, log, -⟩, -⟩ := evolves_of_step hstep
  obtain ⟨n, -, total⟩ := (shape_of_step hstep).charges
  exact ⟨cfg, ready, ⟨es, log⟩, total ▸ Nat.le_add_right _ _⟩

/-- Settles O16: with neither MMIO bit the step evolves the state with no device call. -/
theorem noMmioBitNoDeviceCall : Obligations.NoMmioBitNoDeviceCall := by
  intro s t hfetch hrow hstep
  have evolves : s.Evolves false t :=
    (shape_of_step hstep).evolves hfetch.symm.trans (fun row hr => (hrow row hr).symm.trans)
  obtain ⟨-, -, -, -, ⟨es, log, calls⟩, draws⟩ := evolves
  exact ⟨draws rfl, es, log, calls rfl⟩

end Sys2Proof.Machine
end

section
/-! The charge of a step (40_engine_and_addressing.md R107) and the run that spends a budget (R108). -/

namespace Sys2Proof.Machine

variable {s t u : State} {row : OpRow} {i : Instr}

/-- A decoded instruction has its row's mnemonic and format, so the default CYCLES charges what Execute returned. -/
theorem penaltyCycles_of_fetches (hf : s.Fetches row i) (hu : exec i t = .next u)
    (hops : s.cfg.ops = Config.defaultOps) :
    penaltyCycles row.penalty u.extra = u.extra := by
  obtain ⟨hrow, hdecode⟩ := hf
  obtain ⟨hm, hmode⟩ := decode_row _ _ _ _ _ _ hrow hdecode
  exact default_penaltyCycles row i t u (hops ▸ mem_of_rowOf hrow) hm hmode hu

/-- Settles O9: the close charges the counters Execute found, which are those before the step. -/
theorem stepChargesOnce : Obligations.StepChargesOnce := by
  refine ⟨fun _ _ => rfl, fun s u row i hs hf hu => ?mapped, fun s t hs hrow hstep => ?unmapped⟩
  case mapped =>
    refine ⟨u.closeStep row, by rw [step_of_fetches hs hf, hu, finishStep], ?_, penaltyCycles_of_fetches hf hu⟩
    rw [closeStep_of_exec hu]
    rfl
  case unmapped =>
    cases (step_of_unmapped hs hrow).symm.trans hstep
    simp [State.stopIllegal_afterOpcode_eq]

/-- The loop of `run` with as much fuel as BUDGET: each step spends at least one cycle, so it ends at the budget or in a
halt, and what BUDGET lost TOTAL has gained (R108). -/
theorem runLoop_stops (n : Nat) (hready : s.ready = true) (hwf : s.cfg.wellFormed = true) (hn : s.budget ≤ n) :
    ∃ t, runLoop n s = .next t ∧ (t.budget ≤ 0 ∨ t.halted = true)
      ∧ t.budget + (t.total : Int) = s.budget + (s.total : Int) := by
  induction n generalizing s with
  | zero => exact ⟨s, rfl, .inl hn, rfl⟩
  | succ n ih =>
    by_cases hgo : 0 < s.budget ∧ s.halted = false
    · obtain ⟨hpos, hhalted⟩ := hgo
      obtain ⟨t, hstep⟩ := exists_step_of_ready hready hwf
      have shape := shape_of_step hstep
      obtain ⟨cfg, ready, -⟩ := evolves_of_step hstep
      obtain ⟨k, hbudget, htotal⟩ := shape.charges
      have hlt := shape.budget_lt hhalted hwf
      obtain ⟨u, hrun, hstop, hsum⟩ := ih (ready.trans hready) (cfg ▸ hwf) (by omega)
      refine ⟨u, by simp [runLoop, hpos, hhalted, hstep, hrun], hstop, ?_⟩
      omega
    · refine ⟨s, by simp_all [runLoop], ?_, rfl⟩
      by_cases hb : 0 < s.budget
      · exact .inr (by simpa using fun h => hgo ⟨hb, h⟩)
      · exact .inl (not_lt.1 hb)

/-- Settles O26: `run` sets BUDGET and takes that many steps of fuel. -/
theorem runStopsAtTheBudgetOrAHalt : Obligations.RunStopsAtTheBudgetOrAHalt := by
  intro s b hready hwf
  obtain ⟨t, hrun, hstop, hsum⟩ :=
    runLoop_stops (s := { s with budget := b }) b.toNat hready hwf (Int.self_le_toNat b)
  exact ⟨t, by rw [run, if_pos hready, hrun], hstop, hsum⟩

end Sys2Proof.Machine
end

section
/-! The fetch of bytes that stand in RAM or ROM (40_engine_and_addressing.md R104, 20_memory.md R44): they are the bytes
of memory, and only PC moves. -/

namespace Sys2Proof.Machine

variable {s : State} {a : Word} {v : Byte} {bs : List Byte}

/-- The bytes stand in memory from `a` on, modulo 65,536, none of them at an MMIO address. -/
def State.Holds (s : State) (a : Word) (bs : List Byte) : Prop :=
  ∀ (k : Nat) (v : Byte), bs[k]? = some v →
    regionOf s.cfg (a + BitVec.ofNat 16 k) ≠ .mmio ∧ s.mem.read (a + BitVec.ofNat 16 k).toNat = v

/-- The first byte stands at `a` and the others from the next address on. -/
theorem State.Holds.cons (h : s.Holds a (v :: bs)) :
    (regionOf s.cfg a ≠ .mmio ∧ s.mem.read a.toNat = v) ∧ s.Holds (a + 1) bs := by
  refine ⟨by simpa using h 0 v rfl, fun k w hk => ?_⟩
  rw [add_one_add_ofNat]
  exact h (k + 1) w hk

/-- Fetching a byte of RAM or ROM moves PC only. -/
theorem State.afterFetch_of_not_mmio (h : regionOf s.cfg s.pc ≠ .mmio) : s.afterFetch = s.setPC (s.pc + 1) := by
  rw [State.afterFetch, s.afterRead_of_not_mmio _ h]

/-- Fetching the bytes that stand at PC answers them and moves PC past them. -/
theorem State.fetch_of_holds (h : s.Holds s.pc bs) :
    State.fetchBytes bs.length s = bs
      ∧ State.afterFetches bs.length s = s.setPC (s.pc + BitVec.ofNat 16 bs.length) := by
  induction bs generalizing s with
  | nil => exact ⟨rfl, by simp [State.afterFetches, State.setPC]⟩
  | cons v bs ih =>
    obtain ⟨⟨hregion, hread⟩, htail⟩ := h.cons
    have hfetch := State.afterFetch_of_not_mmio hregion
    obtain ⟨hbytes, hafter⟩ := ih (s := s.setPC (s.pc + 1)) htail
    constructor
    · rw [List.length_cons, State.fetchBytes, hfetch, hbytes, s.busByte_of_not_mmio _ hregion, hread]
    · rw [List.length_cons, State.afterFetches, hfetch, hafter, ← add_one_add_ofNat]
      rfl

/-- Where an encoding stands at PC under the default table, the opcode byte and the operand bytes fetched are its own,
and the fetch changes PC, AT and `started` only. -/
theorem State.fetches_of_holds_encode {i : Instr} {row : OpRow} (hops : s.cfg.ops = Config.defaultOps)
    (hrow : rowOf Config.defaultOps i.opcode = some row) (h : s.Holds s.pc (encode i)) :
    s.Fetches row i
      ∧ s.afterInstruction row
        = { s with pc := s.pc + BitVec.ofNat 16 i.mode.length, accessType := row.access, started := true } := by
  obtain ⟨own, hown, -, hmode⟩ := exists_rowOf_opcode i
  cases hrow.symm.trans hown
  obtain ⟨⟨hregion, hread⟩, htail⟩ := h.cons
  have hop : s.opcodeByte = i.opcode := (s.openStep.busByte_of_not_mmio s.pc hregion).trans hread
  have hfetch : s.afterOpcode = s.openStep.setPC (s.pc + 1) := State.afterFetch_of_not_mmio (s := s.openStep) hregion
  have hlength : row.mode.length - 1 = i.operand.bytes.length := by rw [length_operand_bytes, hmode, Instr.mode]
  have hoperands : (s.atOperands row).Holds (s.atOperands row).pc i.operand.bytes := by
    rw [State.atOperands, hfetch]
    exact htail
  obtain ⟨hbytes, hafter⟩ := State.fetch_of_holds hoperands
  constructor
  · refine ⟨by rw [hops, hop, hrow], ?_⟩
    rw [State.operandBytes, hlength, hbytes, hops, hop]
    simpa [encode] using decode_encode i []
  · obtain ⟨hlog, hdraws⟩ : (s.afterInstruction row).log = s.log ∧ (s.afterInstruction row).draws = s.draws := by
      rw [State.afterInstruction, hlength, hafter, State.atOperands, hfetch]
      exact ⟨rfl, rfl⟩
    rw [State.afterInstruction_eq, hlog, hdraws, hmode]

/-- Settles O6: the bytes in memory are what the fetch reads, so the step is that of a fetched instruction. -/
theorem stepRunsTheInstructionInMemory : Obligations.StepRunsTheInstructionInMemory := by
  intro s i row hs hops hrow hmem
  obtain ⟨hf, hafter⟩ := State.fetches_of_holds_encode hops hrow hmem
  rw [step_of_fetches hs hf, hafter]

end Sys2Proof.Machine
end

section
/-! The caller's moves (70_reset_and_hazards.md R275) and the device a bus access reaches (20_memory.md R49). -/

namespace Sys2Proof.Machine

theorem inRange_iff {lo hi a : Word} : inRange lo hi a = true ↔ lo.toNat ≤ a.toNat ∧ a.toNat ≤ hi.toNat := by
  simp [inRange, BitVec.le_def]

/-- The search from index `k` is the library's search, shifted by `k`. -/
theorem deviceFrom_eq_findIdx? (k : Nat) (ds : List Device) (a : Word) :
    deviceFrom k ds a = (ds.findIdx? fun d => inRange d.lo d.hi a).map (· + k) := by
  induction ds generalizing k with
  | nil => rfl
  | cons d ds ih =>
    cases h : inRange d.lo d.hi a with
    | true => simp [deviceFrom, List.findIdx?_cons, h]
    | false => simp [deviceFrom, List.findIdx?_cons, h, ih, Function.comp_def, Nat.add_assoc, Nat.add_comm 1 k]

theorem firstDevice_eq_findIdx? (c : Config) (a : Word) :
    firstDevice c a = c.devices.findIdx? fun d => inRange d.lo d.hi a := by
  simp [firstDevice, deviceFrom_eq_findIdx?]

/-- Settles O23: the search is the library's `findIdx?`, whose answer is the least match. -/
theorem firstDeviceIsTheLeastMatch : Obligations.FirstDeviceIsTheLeastMatch := by
  intro c a i
  rw [firstDevice_eq_findIdx?, List.findIdx?_eq_some_iff_getElem]
  constructor
  · rintro ⟨hi, hmatch, hleast⟩
    obtain ⟨hlo, hhi⟩ := inRange_iff.1 hmatch
    refine ⟨c.devices[i], List.getElem?_eq_getElem hi, hlo, hhi, fun j e hj he hin => ?_⟩
    obtain ⟨hlen, rfl⟩ := List.getElem?_eq_some_iff.1 he
    exact hleast j hj (inRange_iff.2 hin)
  · rintro ⟨d, hd, hlo, hhi, hleast⟩
    obtain ⟨hi, rfl⟩ := List.getElem?_eq_some_iff.1 hd
    refine ⟨hi, inRange_iff.2 ⟨hlo, hhi⟩, fun j hj hin => ?_⟩
    exact hleast j c.devices[j] hj (List.getElem?_eq_getElem _) (inRange_iff.1 hin)

/-- Settles O27: `poke` is guarded by READY and `started` alone, and is one write of the memory array. -/
theorem pokeIsARawWriteBeforeExecution : Obligations.PokeIsARawWriteBeforeExecution := by
  refine fun s a v => ⟨fun hbefore => ⟨s.rawPoke a v, ?accepted, rfl, fun b => s.peek_rawPoke a b v⟩, ?refused⟩
  case accepted => rcases hbefore with h | h <;> simp [poke, h]
  case refused =>
    intro hready hstarted
    simp [poke, hready, hstarted]

/-- Settles O28: the guards of `configure` in their order; one device too many or reversed makes an ill-formed list. -/
theorem configurationComesBeforeTheFirstReset : Obligations.ConfigurationComesBeforeTheFirstReset := by
  refine fun s c d => ⟨fun hready hwf => by simp [configure, hready, hwf],
    fun hready hwf => by simp [configure, hready, hwf], fun hready => by simp [configure, hready], rfl,
    fun hbad hready => ?_⟩
  simp [registerDevice, configure, hready, Config.wellFormed_append_eq_false hbad]

end Sys2Proof.Machine
end

section
/-! The effective addresses as numbers (40_engine_and_addressing.md R113 to R121) and what an operand is (R124). -/

namespace Sys2Proof.Machine

variable {s : State}

/-- An address with a byte's value is that byte's page-0 address. -/
theorem eq_zeroPage {z : Word} {v : Byte} (h : z.toNat = v.toNat) : z = zeroPage v :=
  BitVec.eq_of_toNat_eq (h.trans (zeroPage_toNat v).symm)

/-- The byte after a page-0 pointer byte, which wraps inside page 0 (R120, R121). -/
theorem zeroPageNext_toNat (v : Byte) : (zeroPageNext v).toNat = (v.toNat + 1) % 256 := by
  rw [zeroPageNext, zeroPage_toNat, BitVec.toNat_add]
  rfl

theorem eq_zeroPageNext {z : Word} {v : Byte} (h : z.toNat = (v.toNat + 1) % 256) : z = zeroPageNext v :=
  BitVec.eq_of_toNat_eq (h.trans (zeroPageNext_toNat v).symm)

/-- Adding an index register to a base wraps modulo 65,536 (R117, R118, R121). -/
theorem toNat_add_index (w : Word) (v : Byte) : (w + v.setWidth 16).toNat = (w.toNat + v.toNat) % 65536 := by
  rw [BitVec.toNat_add, BitVec.toNat_setWidth_of_le (by decide)]

/-- The word two bus reads answer, low byte first (20_memory.md R56). -/
theorem State.busPair_toNat (s : State) (lo hi : Word) :
    (s.busPair lo hi).toNat = ((s.afterRead lo).busByte hi).toNat * 256 + (s.busByte lo).toNat :=
  wordOf_toNat _ _

/-- Settles O29: an index is added modulo 256 before the byte becomes an address. -/
theorem zeroPageAddressesWrap : Obligations.ZeroPageAddressesWrap := by
  refine fun s b => ⟨⟨zeroPage_toNat b, rfl, rfl⟩, ⟨?zpx, rfl, rfl⟩, ⟨?zpy, rfl, rfl⟩⟩
  case zpx => exact (zeroPage_toNat (b + s.x)).trans (BitVec.toNat_add b s.x)
  case zpy => exact (zeroPage_toNat (b + s.y)).trans (BitVec.toNat_add b s.y)

/-- Settles O30: the index is added to the 16-bit base, and the page is compared with the base's. -/
theorem absoluteAddressesWrap : Obligations.AbsoluteAddressesWrap :=
  fun s w => ⟨⟨rfl, rfl, rfl⟩, ⟨toNat_add_index w s.x, pageDiffers_eq _ _, rfl⟩,
    ⟨toNat_add_index w s.y, pageDiffers_eq _ _, rfl⟩⟩

/-- Settles O31: the two addresses given are the pointer's, so the word at them is the base. -/
theorem indirectAddressesReadAPagedPointer : Obligations.IndirectAddressesReadAPagedPointer := by
  refine fun s b => ⟨fun z z' hz hz' => ?indx, fun z z' hz hz' base hbase => ?indy⟩
  case indx =>
    have hv : (b + s.x).toNat = (b.toNat + s.x.toNat) % 256 := BitVec.toNat_add b s.x
    obtain rfl : z = zeroPage (b + s.x) := eq_zeroPage (hz.trans hv.symm)
    obtain rfl : z' = zeroPageNext (b + s.x) := eq_zeroPageNext (by rw [hz', hv, Nat.mod_add_mod])
    exact ⟨s.busPair_toNat _ _, rfl, rfl⟩
  case indy =>
    obtain rfl := eq_zeroPage hz
    obtain rfl := eq_zeroPageNext hz'
    rw [← State.busPair_toNat] at hbase
    subst hbase
    exact ⟨toNat_add_index _ s.y, pageDiffers_eq _ _, rfl⟩

/-- The forms that pay an indexing penalty, by their format (70_reset_and_hazards.md R292, R293). -/
theorem indexed16_iff (m : MemForm) :
    indexed16 m = true ↔ m.mode = .absx ∨ m.mode = .absy ∨ m.mode = .indy := by
  cases m <;> simp [indexed16, MemForm.mode]

/-- Settles O32: the values are the definitions' own; the penalty asks for an indexed form, and a read outside MMIO
changes nothing. -/
theorem operandValueAndPenalty : Obligations.OperandValueAndPenalty := by
  refine fun s => ⟨fun v => ⟨rfl, rfl, rfl⟩, fun m => ⟨rfl, rfl, ?penalty, fun hea hregion => ?plain⟩⟩
  case penalty => simp only [State.readPenalty, ← indexed16_iff, Bool.and_eq_true, and_comm]
  case plain =>
    simp only [State.afterOperand, State.afterCell, State.operandByte, State.cellByte, hea]
    exact ⟨s.afterRead_of_not_mmio _ hregion, s.busByte_of_not_mmio _ hregion⟩

end Sys2Proof.Machine
end

section
/-! The flags each computation leaves, in the spec's arithmetic, and the instructions that read one operand. -/

namespace Sys2Proof.Machine

variable {s : State} {i : Instr} {f : ReadForm}

/-- A byte is 0 when its value is. -/
theorem beq_zero_eq (v : Byte) : (v == 0) = decide (v.toNat = 0) := by
  simp [← BitVec.toNat_inj, Bool.beq_eq_decide_eq]

/-- `SetZN(v)` sets Z and N from the value and no other flag (10_state.md R17). -/
theorem flagsAfter_withZN (ps v : Byte) : FlagsAfter ps (withZN ps v) (znFlags v.toNat) := by
  intro g
  rw [flagOf_withZN, beq_zero_eq, getLsbD_seven]
  cases g <;> rfl

/-- C and then `SetZN(v)`, the flags of a shift (45_shift_rotate.md R170). -/
theorem flagsAfter_setFlag_withZN (ps v : Byte) (c : Bool) :
    FlagsAfter ps (withZN (setFlag ps .C c) v) ((.C, c) :: znFlags v.toNat) := by
  intro g
  rw [flagOf_withZN, beq_zero_eq, getLsbD_seven, flagOf_setFlag]
  cases g <;> rfl

/-- Writing one flag changes that flag only (10_state.md R14). -/
theorem flagsAfter_setFlag (ps : Byte) (g : Flag) (b : Bool) : FlagsAfter ps (setFlag ps g b) [(g, b)] := by
  intro h
  rw [flagOf_setFlag]
  by_cases hg : h = g
  · simp [List.lookup, hg]
  · simp [List.lookup, hg, beq_eq_false_iff_ne.2 hg]

/-! ### Loads and logical operations -/

/-- Settles O33: the record of LDA, with the flags of `SetZN`. -/
theorem ldaLoadsItsOperand : Obligations.LdaLoadsItsOperand := by
  intro i f s hm ho
  refine ⟨_, exec_of_shape (.lda i f hm ho), ?_, ?_⟩ <;> rw [State.lda_eq]
  exact flagsAfter_withZN _ _

/-- Settles O34: the record of LDX, with the flags of `SetZN`. -/
theorem ldxLoadsItsOperand : Obligations.LdxLoadsItsOperand := by
  intro i f s hm ho
  refine ⟨_, exec_of_shape (.ldx i f hm ho), ?_, ?_⟩ <;> rw [State.ldx_eq]
  exact flagsAfter_withZN _ _

/-- Settles O35: the record of LDY, with the flags of `SetZN`. -/
theorem ldyLoadsItsOperand : Obligations.LdyLoadsItsOperand := by
  intro i f s hm ho
  refine ⟨_, exec_of_shape (.ldy i f hm ho), ?_, ?_⟩ <;> rw [State.ldy_eq]
  exact flagsAfter_withZN _ _

/-- AND, ORA and EOR answer the logical result of their mnemonic's table entry (43_logical.md R151 to R153). -/
theorem exec_logical {r : Byte} (ho : i.operand = f.operand)
    (hr : logicalValue s.a (s.operandByte f) i.mnemonic = some r) : exec i s = .next (s.logicResult f r) := by
  cases hm : i.mnemonic <;> rw [hm] at hr <;> cases hr
  · exact exec_of_shape (.and_ i f hm ho)
  · exact exec_of_shape (.ora_ i f hm ho)
  · exact exec_of_shape (.eor_ i f hm ho)

/-- Settles O40: the logical result of the table, with the flags of `SetZN`. -/
theorem logicalOperationsWriteA : Obligations.LogicalOperationsWriteA := by
  intro i f s r ho hr
  refine ⟨_, exec_logical ho hr, ?_, ?_⟩ <;> rw [State.logicResult_eq]
  exact flagsAfter_withZN _ _

/-! ### BIT and the compares -/

/-- Bit 6 of a byte, as a digit of its value. -/
theorem getLsbD_six (v : Byte) : v.getLsbD 6 = decide (v.toNat / 64 % 2 = 1) := by
  rw [BitVec.getLsbD, Nat.testBit_eq_decide_div_mod_eq]

/-- BIT: N and V from the operand, Z from the AND (R154). -/
theorem flagsAfter_bitFlags (ps a m : Byte) :
    FlagsAfter ps (bitFlags ps a m)
      [(.N, decide (m.toNat / 128 = 1)), (.V, decide (m.toNat / 64 % 2 = 1)), (.Z, a &&& m == 0)] := by
  intro g
  have hN : m.getLsbD 7 = decide (m.toNat / 128 = 1) := by
    have hm := m.isLt
    rw [getLsbD_seven, decide_eq_decide]
    omega
  rw [flagOf_bitFlags, hN, getLsbD_six]
  cases g <;> rfl

/-- Settles O41: the record of BIT and its three flags. -/
theorem bitTestsWithoutWritingA : Obligations.BitTestsWithoutWritingA := by
  intro i f s hm ho
  refine ⟨_, exec_of_shape (.bit i f hm ho), ?_, ?_⟩ <;> rw [State.bit_eq]
  exact flagsAfter_bitFlags _ _ _

/-- `Compare(r, m)` as a comparison of unsigned numbers (44_compare.md R160). -/
theorem flagsAfter_compareFlags (ps r m : Byte) :
    FlagsAfter ps (compareFlags ps r m)
      [(.C, decide (m.toNat ≤ r.toNat)), (.Z, decide (r.toNat = m.toNat)),
        (.N, decide (128 ≤ (r.toNat + 256 - m.toNat) % 256))] := by
  intro g
  have hZ : (r == m) = decide (r.toNat = m.toNat) := by simp [BitVec.toNat_inj, Bool.beq_eq_decide_eq]
  have hN : (r - m).toNat = (r.toNat + 256 - m.toNat) % 256 := by
    have hm := m.isLt
    rw [BitVec.toNat_sub]
    congr 1
    omega
  rw [flagOf_compareFlags, hZ, getLsbD_seven, hN]
  cases g <;> rfl

/-- A compare never pays the read penalty where its mnemonic has no indexed form (70_reset_and_hazards.md R290). -/
theorem State.readPenalty_eq_zero (hm : i.mnemonic = .CPX ∨ i.mnemonic = .CPY) (ho : i.operand = f.operand) :
    s.readPenalty f = 0 := by
  cases f with
  | imm v => rfl
  | mem m =>
    rcases hm with hm | hm <;> have hi := assemble_of_eq hm ho
    all_goals cases m <;> cases hi <;> rfl

/-- CMP, CPX and CPY compare their register and pay the read penalty, which is 0 for CPX and CPY (R161 to R163). -/
theorem exec_compare {r : Byte} (ho : i.operand = f.operand) (hr : comparedRegister s i.mnemonic = some r) :
    exec i s = .next ((s.compare r f).setExtra (s.readPenalty f)) := by
  cases hm : i.mnemonic <;> rw [hm] at hr <;> cases hr
  · exact exec_of_shape (.cmp i f hm ho)
  · rw [State.readPenalty_eq_zero (.inl hm) ho]
    exact exec_of_shape (.cpx i f hm ho)
  · rw [State.readPenalty_eq_zero (.inr hm) ho]
    exact exec_of_shape (.cpy i f hm ho)

/-- Settles O42: one compare for the three registers, with its flags as comparisons of numbers. -/
theorem comparesWriteFlagsOnly : Obligations.ComparesWriteFlagsOnly := by
  intro i f s r ho hr
  refine ⟨_, exec_compare ho hr, ?_, ?_⟩ <;> rw [State.compare_eq]
  · rfl
  · exact flagsAfter_compareFlags _ _ _

end Sys2Proof.Machine
end

section
/-! The adder as exact sums (42_arithmetic.md R140): the unsigned sum gives the result and the carry, the signed one the
overflow. SBC adds the ones-complement, which is the exact difference shifted by 256 (R143). -/

namespace Sys2Proof.Machine

variable {i : Instr}

/-- The mask of bit 7 leaves bit 7. -/
theorem and_mask_seven_bne_zero (v : Byte) : (v &&& 0x80 != 0) = v.getLsbD 7 := by
  revert v
  decide

/-- The adder overflows when the operands agree in sign and the result does not. -/
theorem addOverflow_eq (a m r : Byte) :
    addOverflow a m r
      = ((decide (128 ≤ a.toNat) == decide (128 ≤ m.toNat))
          && (decide (128 ≤ a.toNat) != decide (128 ≤ r.toNat))) := by
  rw [addOverflow, and_mask_seven_bne_zero]
  simp only [BitVec.getLsbD_and, BitVec.getLsbD_not, BitVec.getLsbD_xor, ← getLsbD_seven]
  cases a.getLsbD 7 <;> cases m.getLsbD 7 <;> cases r.getLsbD 7 <;> rfl

theorem addResult_toNat (a m : Byte) (c : Bool) : (addResult a m c).toNat = addSum a m c % 256 :=
  BitVec.toNat_ofNat _ _

/-- The signed value of a byte (00_scope.md R5). -/
theorem toInt_eq (v : Byte) : v.toInt = if 128 ≤ v.toNat then (v.toNat : Int) - 256 else v.toNat := by
  rw [BitVec.toInt_eq_toNat_cond]
  split <;> split <;> omega

/-- The adder's overflow is that the signed sum has no signed byte. -/
theorem addOverflow_addResult (a m : Byte) (c : Bool) :
    addOverflow a m (addResult a m c)
      = decide (a.toInt + m.toInt + (c.toNat : Int) < -128 ∨ 127 < a.toInt + m.toInt + (c.toNat : Int)) := by
  have ha := a.isLt
  have hm := m.isLt
  have hc := c.toNat_le
  rw [addOverflow_eq, addResult_toNat, addSum, toInt_eq, toInt_eq, Bool.eq_iff_iff]
  simp only [Bool.and_eq_true, beq_iff_eq, bne_iff_ne, ne_eq, decide_eq_decide, decide_eq_true_eq]
  split <;> split <;> omega

/-- PS after the adder, by the exact sums (R140). -/
theorem flagsAfter_addFlags (ps a m : Byte) :
    FlagsAfter ps (addFlags ps a m)
      ([(.C, decide (255 < addSum a m (flagOf ps .C))),
        (.V, decide (a.toInt + m.toInt + ((flagOf ps .C).toNat : Int) < -128
          ∨ 127 < a.toInt + m.toInt + ((flagOf ps .C).toNat : Int)))]
        ++ znFlags (addSum a m (flagOf ps .C) % 256)) := by
  intro g
  rw [flagOf_addFlags, addOverflow_addResult, beq_zero_eq, getLsbD_seven, addResult_toNat]
  cases g <;> rfl

/-- Settles O37: the adder's record, with the flags by exact sums. -/
theorem adcAddsWithCarry : Obligations.AdcAddsWithCarry := by
  intro i f s sum signed hm ho hsum hsigned
  subst hsum hsigned
  refine ⟨_, exec_of_shape (.adc i f hm ho), ?_, ?_⟩ <;> rw [State.adc_eq]
  · rfl
  · exact flagsAfter_addFlags _ _ _

/-- The unsigned sum with the ones-complement is the exact difference plus 256. -/
theorem addSum_not (a m : Byte) (c : Bool) :
    (addSum a (~~~m) c : Int) = (a.toNat : Int) - m.toNat - (1 - c.toNat) + 256 := by
  have hm := m.isLt
  rw [addSum, BitVec.toNat_not]
  omega

/-- The signed value of the ones-complement. -/
theorem toInt_not (m : Byte) : (~~~m).toInt = -m.toInt - 1 := by
  have hm := m.isLt
  rw [toInt_eq, toInt_eq, BitVec.toNat_not]
  split <;> split <;> omega

/-- Settles O38: the sums of the adder with the ones-complement, rewritten as differences. -/
theorem sbcSubtractsWithBorrow : Obligations.SbcSubtractsWithBorrow := by
  intro i f s diff signed hm ho hdiff hsigned
  have hsum := addSum_not s.a (s.operandByte f) (s.flag .C)
  rw [← hdiff] at hsum
  have hcarry : (0 ≤ diff) = (255 < addSum s.a (~~~s.operandByte f) (s.flag .C)) := by
    rw [eq_iff_iff]
    omega
  have hresult : (diff % 256).toNat = addSum s.a (~~~s.operandByte f) (s.flag .C) % 256 := by omega
  have hsum' : s.a.toInt + (~~~s.operandByte f).toInt + ((s.flag .C).toNat : Int) = signed := by
    rw [toInt_not]
    omega
  have ha : BitVec.ofInt 8 diff = addResult s.a (~~~s.operandByte f) (s.flag .C) := by
    apply BitVec.eq_of_toNat_eq
    rw [BitVec.toNat_ofInt, addResult_toNat]
    exact hresult
  refine ⟨_, exec_of_shape (.sbc i f hm ho), ?_, ?_⟩ <;> rw [State.sbc_eq]
  · rw [ha]
  · rw [hresult, ← hsum']
    simp only [hcarry]
    exact flagsAfter_addFlags _ _ _

/-! ### The D flag -/

/-- Writing D does not meet the flags the adder reads and writes. -/
theorem addFlags_setFlag_decimal (ps a m : Byte) (d : Bool) :
    addFlags (setFlag ps .D d) a m = setFlag (addFlags ps a m) .D d := by
  apply ps_ext
  intro g
  cases g <;> simp [flagOf_addFlags]

/-- ADC in a state with another D answers its state with that D (R142). -/
theorem State.adc_putFlag_decimal (s : State) (f : ReadForm) (d : Bool) :
    (s.putFlag .D d).adc f = (s.adc f).putFlag .D d := by
  unfold State.putFlag
  ext1 <;> simp [State.adc, State.addCore, State.flag, State.afterOperand_setPS, State.operandByte_setPS,
    State.readPenalty_setPS, addFlags_setFlag_decimal]

theorem State.sbc_putFlag_decimal (s : State) (f : ReadForm) (d : Bool) :
    (s.putFlag .D d).sbc f = (s.sbc f).putFlag .D d := by
  unfold State.putFlag
  ext1 <;> simp [State.sbc, State.addCore, State.flag, State.afterOperand_setPS, State.operandByte_setPS,
    State.readPenalty_setPS, addFlags_setFlag_decimal]

/-- ADC and SBC have a read operand (30_encoding.md R86). -/
theorem exists_readForm_of_adc_or_sbc (hm : i.mnemonic = .ADC ∨ i.mnemonic = .SBC) :
    ∃ f : ReadForm, i.operand = f.operand := by
  rcases hm with hm | hm <;> have hi := assemble_of_eq hm rfl
  all_goals cases ho : i.operand with
    | imm v => exact ⟨.imm v, rfl⟩
    | mem m => exact ⟨.mem m, rfl⟩
    | _ => rw [ho] at hi; cases hi

/-- Settles O39: the two runs differ by D from the start to the end. -/
theorem decimalFlagChangesNothing : Obligations.DecimalFlagChangesNothing := by
  intro i s t d hm h
  obtain ⟨f, ho⟩ := exists_readForm_of_adc_or_sbc hm
  rcases hm with hm | hm
  · rw [exec_next_unique i s t _ h (exec_of_shape (.adc i f hm ho))]
    exact (exec_of_shape (s := s.putFlag .D d) (.adc i f hm ho)).trans
      (congrArg Host.Outcome.next (s.adc_putFlag_decimal f d))
  · rw [exec_next_unique i s t _ h (exec_of_shape (.sbc i f hm ho))]
    exact (exec_of_shape (s := s.putFlag .D d) (.sbc i f hm ho)).trans
      (congrArg Host.Outcome.next (s.sbc_putFlag_decimal f d))

end Sys2Proof.Machine
end

section
/-! The instructions that write memory or a cell: stores, shifts and rotates, INC and DEC. -/

namespace Sys2Proof.Machine

variable {s : State} {i : Instr} {m : MemForm}

/-! ### Stores -/

/-- STORE_INDEXED_PENALTY is paid in the indexed forms when it is `always` (70_reset_and_hazards.md R293). -/
theorem State.storePenalty_eq (s : State) (m : MemForm) :
    s.storePenalty m
      = if s.cfg.storePenalty = .always ∧ (m.mode = .absx ∨ m.mode = .absy ∨ m.mode = .indy) then 1 else 0 := by
  simp only [State.storePenalty, ← indexed16_iff, Bool.and_eq_true, decide_eq_true_eq, and_comm]

/-- STA, STX and STY store their register; STA alone pays (41_load_store.md R134 to R136). -/
theorem exec_store {v : Byte} (ho : i.operand = .mem m) (hr : storedRegister s i.mnemonic = some v) :
    exec i s
      = .next ((s.storeByte m v).setExtra
          (if s.cfg.storePenalty = .always ∧ i.mnemonic = .STA
              ∧ (m.mode = .absx ∨ m.mode = .absy ∨ m.mode = .indy) then 1 else 0)) := by
  cases hm : i.mnemonic <;> rw [hm] at hr <;> cases hr
  · simpa [State.sta, State.storePenalty_eq] using exec_of_shape (s := s) (.sta i m hm ho)
  · simpa [State.stx] using exec_of_shape (s := s) (.stx i m hm ho)
  · simpa [State.sty] using exec_of_shape (s := s) (.sty i m hm ho)

/-- A store hands one byte to the bus at the effective address. -/
theorem State.storesOneByte_storeByte (s : State) (m : MemForm) (v : Byte) :
    StoresOneByte s (s.storeByte m v) (s.ea m) v := by
  simpa [StoresOneByte, State.storeByte] using (s.afterEa m).storesOneByte_busWrite (s.ea m) v

/-- A read-modify-write hands one byte to the bus at the effective address. -/
theorem State.storesOneByte_rewriteCell (s : State) (m : MemForm) (v : Byte) :
    StoresOneByte s ((s.afterCell m).busWrite (s.ea m) v) (s.ea m) v := by
  simpa [StoresOneByte] using (s.afterCell m).storesOneByte_busWrite (s.ea m) v

/-- Settles O36: one store for the three registers, with the penalty of STA. -/
theorem storesWriteOneByte : Obligations.StoresWriteOneByte := by
  intro i m s v ho hr
  refine ⟨_, exec_store ho hr, ?_, s.storesOneByte_storeByte m v⟩
  rw [State.storeByte_eq]
  rfl

/-! ### Shifts and rotates -/

/-- ASL doubles modulo 256 and shifts bit 7 into C (45_shift_rotate.md R171). -/
theorem aslStep_eq (v : Byte) (c : Bool) :
    aslStep v c = (BitVec.ofNat 8 (2 * v.toNat % 256), decide (v.toNat / 128 = 1)) := by
  revert v c
  decide

/-- LSR halves and shifts bit 0 into C (R172). -/
theorem lsrStep_eq (v : Byte) (c : Bool) :
    lsrStep v c = (BitVec.ofNat 8 (v.toNat / 2), decide (v.toNat % 2 = 1)) := by
  revert v c
  decide

/-- ROL rotates the nine bits of C and the byte to the left (R173). -/
theorem rolStep_eq (v : Byte) (c : Bool) :
    rolStep v c = (BitVec.ofNat 8 ((2 * v.toNat + c.toNat) % 256), decide (v.toNat / 128 = 1)) := by
  revert v c
  decide

/-- ROR rotates the nine bits of C and the byte to the right (R174). -/
theorem rorStep_eq (v : Byte) (c : Bool) :
    rorStep v c = (BitVec.ofNat 8 (v.toNat / 2 + 128 * c.toNat), decide (v.toNat % 2 = 1)) := by
  revert v c
  decide

/-- ASL, LSR, ROL and ROR shift by a function whose result is the one the spec's arithmetic gives. -/
theorem exists_shift_of_shiftedValue {f : RmwForm} {b : Byte} {c : Bool} {v k : Nat} (s : State)
    (ho : i.operand = f.operand) (h : shiftedValue b.toNat c.toNat i.mnemonic = some (v, k)) :
    ∃ g, exec i s = .next (s.shift f g) ∧ g b c = (BitVec.ofNat 8 v, decide (k = 1)) ∧ v < 256 := by
  have hb := b.isLt
  have hc := c.toNat_le
  cases hm : i.mnemonic <;> rw [hm] at h <;> cases h
  · exact ⟨aslStep, exec_of_shape (.asl i f hm ho), aslStep_eq b c, by omega⟩
  · exact ⟨lsrStep, exec_of_shape (.lsr i f hm ho), lsrStep_eq b c, by omega⟩
  · exact ⟨rolStep, exec_of_shape (.rol i f hm ho), rolStep_eq b c, by omega⟩
  · exact ⟨rorStep, exec_of_shape (.ror i f hm ho), rorStep_eq b c, by omega⟩

/-- The flags of a shift whose result is the byte `v` (R170). -/
theorem flagsAfter_shift {v : Nat} (ps : Byte) (c : Bool) (hv : v < 256) :
    FlagsAfter ps (withZN (setFlag ps .C c) (BitVec.ofNat 8 v)) ((.C, c) :: znFlags v) := by
  have h := flagsAfter_setFlag_withZN ps (BitVec.ofNat 8 v) c
  rwa [BitVec.toNat_ofNat, Nat.mod_eq_of_lt hv] at h

/-- Settles O43: the shift of A by the step function of the mnemonic. -/
theorem accumulatorShifts : Obligations.AccumulatorShifts := by
  intro i s v c ho h
  obtain ⟨g, hexec, hg, hv⟩ := exists_shift_of_shiftedValue (f := .acc) s ho h
  refine ⟨_, hexec, hv, ?_, ?_⟩ <;> rw [State.shift_acc_eq, hg]
  exact flagsAfter_shift _ _ hv

/-- Settles O44: the shift of a cell by the step function of the mnemonic; the cell is read and written once. -/
theorem memoryShifts : Obligations.MemoryShifts := by
  intro i m s v c ho h
  obtain ⟨g, hexec, hg, hv⟩ := exists_shift_of_shiftedValue (f := .mem m) s ho h
  refine ⟨_, hexec, hv, ?_, ?_, ?_⟩ <;> rw [State.shift_mem_eq, hg]
  · exact s.storesOneByte_rewriteCell m _
  · exact flagsAfter_shift _ _ hv

/-! ### INC and DEC on a cell -/

/-- INC and DEC bump the cell by a byte that gives the spec's result (46_inc_dec.md R181, R182). -/
theorem exists_bumpCell {v : Nat} (ho : i.operand = .mem m)
    (h : i.mnemonic = .INC ∧ v = ((s.cellByte m).toNat + 1) % 256
      ∨ i.mnemonic = .DEC ∧ v = ((s.cellByte m).toNat + 255) % 256) :
    ∃ d, exec i s = .next (s.bumpCell m d) ∧ s.cellByte m + d = BitVec.ofNat 8 v := by
  rcases h with ⟨hm, rfl⟩ | ⟨hm, rfl⟩
  · exact ⟨1, exec_of_shape (.inc i m hm ho), by bv_omega⟩
  · exact ⟨-1, exec_of_shape (.dec i m hm ho), by bv_omega⟩

/-- Settles O45: the cell is read, bumped and written once. -/
theorem incrementAndDecrementACell : Obligations.IncrementAndDecrementACell := by
  intro i m s v ho h
  obtain ⟨d, hexec, hd⟩ := exists_bumpCell ho h
  have hv : (BitVec.ofNat 8 v).toNat = v := by
    rw [BitVec.toNat_ofNat]
    omega
  refine ⟨_, hexec, ?_, ?_, ?_⟩ <;> rw [State.bumpCell_eq, hd]
  · exact s.storesOneByte_rewriteCell m _
  · simpa only [hv] using flagsAfter_withZN s.ps (BitVec.ofNat 8 v)

end Sys2Proof.Machine
end

section
/-! The instructions on registers alone: INX to DEY, the branches, the flag instructions, NOP and the transfers. -/

namespace Sys2Proof.Machine

variable {s : State} {i : Instr}

/-- Settles O46: each is one update, whose value wraps modulo 256. -/
theorem incrementAndDecrementIndexRegisters : Obligations.IncrementAndDecrementIndexRegisters := by
  refine fun s => ⟨⟨_, rfl, rfl, ?inx, flagsAfter_withZN _ _⟩, ⟨_, rfl, rfl, ?iny, flagsAfter_withZN _ _⟩,
    ⟨_, rfl, rfl, ?dex, flagsAfter_withZN _ _⟩, ⟨_, rfl, rfl, ?dey, flagsAfter_withZN _ _⟩⟩
  case inx => exact BitVec.toNat_add s.x 1
  case iny => exact BitVec.toNat_add s.y 1
  case dex => exact (BitVec.toNat_sub s.x 1).trans (by rw [Nat.add_comm]; rfl)
  case dey => exact (BitVec.toNat_sub s.y 1).trans (by rw [Nat.add_comm]; rfl)

/-- The target of a branch is the signed sum modulo 65,536 (40_engine_and_addressing.md R122). -/
theorem relTarget_eq (next : Word) (off : Byte) :
    relTarget next off = BitVec.ofInt 16 ((next.toNat : Int) + off.toInt) := by
  rw [relTarget, signExtend16, BitVec.signExtend, BitVec.ofInt_add, BitVec.ofInt_natCast, BitVec.ofNat_toNat,
    BitVec.setWidth_eq]

/-- Each branch takes its condition from PS (47_branch.md R191 to R198). -/
theorem exec_branch {off : Byte} {taken : Bool} (ho : i.operand = .rel off)
    (h : branchTaken s.ps i.mnemonic = some taken) : exec i s = .next (s.branch taken off) := by
  cases hm : i.mnemonic <;> rw [hm] at h <;> cases h
  all_goals
    have hi := assemble_of_eq hm ho
    cases hi
    rfl

/-- Settles O47: the branch by its condition, the target as a signed sum and the page by its number. -/
theorem branchesGoToTheirTarget : Obligations.BranchesGoToTheirTarget := by
  intro i off s taken target ho h htarget
  rw [exec_branch ho h, State.branch_eq, relTarget_eq, ← htarget, pageDiffers_eq]
  simp only [decide_eq_true_eq, ne_eq, ite_not]

/-- A flag instruction writes its flag; the other instructions have no entry in the table (49_flags_nop_transfers.md
R221 to R227). -/
theorem exec_of_flagWritten {f : Flag} {b : Bool} (s : State) (h : flagWritten i.mnemonic = some (f, b)) :
    exec i s = .next ((s.putFlag f b).setExtra 0) := by
  cases i <;> cases h <;> rfl

/-- Settles O55: one flag is written. -/
theorem flagInstructionsWriteOneFlag : Obligations.FlagInstructionsWriteOneFlag :=
  fun _ s f b h => ⟨_, exec_of_flagWritten s h, rfl, flagsAfter_setFlag s.ps f b⟩

/-- Settles O56: each is one register update, TXS and NOP without flags. -/
theorem nopAndTransfers : Obligations.NopAndTransfers :=
  fun _ => ⟨rfl, ⟨_, rfl, rfl, flagsAfter_withZN _ _⟩, ⟨_, rfl, rfl, flagsAfter_withZN _ _⟩,
    ⟨_, rfl, rfl, flagsAfter_withZN _ _⟩, ⟨_, rfl, rfl, flagsAfter_withZN _ _⟩,
    ⟨_, rfl, rfl, flagsAfter_withZN _ _⟩, rfl⟩

end Sys2Proof.Machine
end

section
/-! The stack in the spec's arithmetic (48_stack_control.md R200 to R202): the cells, what a push stores, what a pop
reads. -/

namespace Sys2Proof

/-- The high byte of a word as a quotient (00_scope.md R5). -/
theorem highByte_eq (w : Word) : highByte w = BitVec.ofNat 8 (w.toNat / 256) := by
  have hw := w.isLt
  apply BitVec.eq_of_toNat_eq
  rw [highByte_toNat, BitVec.toNat_ofNat]
  omega

/-- The low byte of a word as a remainder (R5). -/
theorem lowByte_eq (w : Word) : lowByte w = BitVec.ofNat 8 (w.toNat % 256) := by
  apply BitVec.eq_of_toNat_eq
  rw [lowByte_toNat, BitVec.toNat_ofNat]
  omega

namespace Machine

variable {s : State}

/-- The stack cell of an SP value (10_state.md R12). -/
theorem stackAddr_eq (sp : Byte) : stackAddr sp = BitVec.ofNat 16 (256 + sp.toNat) := by
  have hsp := sp.isLt
  apply BitVec.eq_of_toNat_eq
  rw [stackAddr_toNat, BitVec.toNat_ofNat]
  omega

/-- The cell a pop reads (R201). -/
theorem stackAddr_succ_eq (sp : Byte) : stackAddr (sp + 1) = BitVec.ofNat 16 (256 + (sp.toNat + 1) % 256) := by
  rw [stackAddr_eq, BitVec.toNat_add]
  rfl

/-- Distinct SP values have distinct cells. -/
theorem stackAddr_inj {p q : Byte} : stackAddr p = stackAddr q ↔ p = q := by
  rw [← BitVec.toNat_inj, stackAddr_toNat, stackAddr_toNat, Nat.add_left_cancel_iff, BitVec.toNat_inj]

/-- SP wraps, but two pushes in a row use two cells. -/
theorem stackAddr_sub_one_ne (sp : Byte) : stackAddr (sp - 1) ≠ stackAddr sp := by
  rw [Ne, stackAddr_inj]
  bv_omega

theorem stackAddr_sub_two_ne (sp : Byte) : stackAddr (sp - 2) ≠ stackAddr sp := by
  rw [Ne, stackAddr_inj]
  bv_omega

theorem stackAddr_sub_two_ne_sub_one (sp : Byte) : stackAddr (sp - 2) ≠ stackAddr (sp - 1) := by
  rw [Ne, stackAddr_inj]
  bv_omega

/-- A push hands one byte to the bus at the cell of SP (R200). -/
theorem State.storesOneByte_push (s : State) (v : Byte) : StoresOneByte s (s.push v) (stackAddr s.sp) v :=
  s.storesOneByte_busWrite (stackAddr s.sp) v

/-- A push stores where its cell is RAM (R200). -/
theorem State.read_push (s : State) (v : Byte) (b : Word) :
    (s.push v).mem.read b.toNat
      = if regionOf s.cfg b = .ram ∧ b = stackAddr s.sp then v else s.mem.read b.toNat := by
  rw [State.push_read]
  by_cases hb : b = stackAddr s.sp <;> simp [hb]

/-- The bytes two pushes leave: the later one at the lower cell (R202). -/
theorem State.read_push_push (s : State) (v w : Byte) (b : Word) :
    ((s.push v).push w).mem.read b.toNat
      = if regionOf s.cfg b = .ram ∧ b = stackAddr (s.sp - 1) then w
        else if regionOf s.cfg b = .ram ∧ b = stackAddr s.sp then v
        else s.mem.read b.toNat := by
  rw [State.read_push, State.read_push, State.push_cfg, State.push_sp]

theorem sub_one_sub_one (sp : Byte) : sp - 1 - 1 = sp - 2 := by
  bv_omega

theorem add_one_add_one (sp : Byte) : sp + 1 + 1 = sp + 2 := by
  bv_omega

/-- The bytes three pushes leave. -/
theorem State.read_push_push_push (s : State) (v w x : Byte) (b : Word) :
    (((s.push v).push w).push x).mem.read b.toNat
      = if regionOf s.cfg b = .ram ∧ b = stackAddr (s.sp - 2) then x
        else if regionOf s.cfg b = .ram ∧ b = stackAddr (s.sp - 1) then w
        else if regionOf s.cfg b = .ram ∧ b = stackAddr s.sp then v
        else s.mem.read b.toNat := by
  rw [State.read_push, State.read_push_push]
  simp only [State.push_cfg, State.push_sp, sub_one_sub_one]

/-- A 16-bit push pushes the quotient and then the remainder by 256 (R202). -/
theorem State.pushWord_eq (s : State) (w : Word) :
    s.pushWord w = (s.push (BitVec.ofNat 8 (w.toNat / 256))).push (BitVec.ofNat 8 (w.toNat % 256)) := by
  rw [State.pushWord, highByte_eq, lowByte_eq]

/-- A bus read does not touch SP. -/
theorem State.afterRead_setSP (s : State) (v : Byte) (a : Word) :
    (s.setSP v).afterRead a = (s.afterRead a).setSP v := by
  have hm : (s.setSP v).mayMmio = s.mayMmio := rfl
  simp only [State.afterRead, hm, State.setSP_cfg, State.setSP_draws]
  cases regionOf s.cfg a with
  | ram => rfl
  | rom => rfl
  | mmio =>
    cases s.mayMmio with
    | false => rfl
    | true => cases firstDevice s.cfg a <;> rfl

/-- A pop is the read of the cell above SP and the increment of SP, in either order (R201). -/
theorem State.afterPop_eq_setSP (s : State) :
    s.afterPop = (s.afterRead (stackAddr (s.sp + 1))).setSP (s.sp + 1) :=
  s.afterRead_setSP (s.sp + 1) (stackAddr (s.sp + 1))

/-- The byte the second of two pops answers. -/
theorem State.popByte_afterPop (s : State) : s.afterPop.popByte = s.afterPop.busByte (stackAddr (s.sp + 2)) := by
  rw [State.popByte_eq, State.afterPop_sp, add_one_add_one]

/-- The word a 16-bit pop answers, low byte first (R202). -/
theorem State.popWord_toNat (s : State) :
    s.popWord.toNat
      = (s.afterPop.busByte (stackAddr (s.sp + 2))).toNat * 256 + (s.busByte (stackAddr (s.sp + 1))).toNat := by
  rw [State.popWord, wordOf_toNat, State.popByte_afterPop, State.popByte_eq]

/-- A 16-bit pop changes SP, LOG and the draw counter only (R202). -/
theorem State.afterPopWord_eq (s : State) :
    s.afterPopWord
      = { s with sp := s.sp + 2, log := s.afterPop.afterPop.log, draws := s.afterPop.afterPop.draws } := by
  rw [State.afterPopWord, State.afterPop_eq, State.afterPop_eq]
  simp only [State.mk.injEq, true_and, and_true]
  exact add_one_add_one s.sp

end Machine

end Sys2Proof
end

section
/-! The stack and control instructions (48_stack_control.md R203 to R211). -/

namespace Sys2Proof.Machine

variable {s : State} {i : Instr}

/-- Settles O48: PHA and PHP are one push each. -/
theorem pushInstructions : Obligations.PushInstructions := by
  intro s i v cell hpush hcell
  rw [← stackAddr_eq] at hcell
  subst hcell
  have hexec : exec i s = .next ((s.push v).setExtra 0) := by
    rcases hpush with ⟨rfl, rfl⟩ | ⟨rfl, rfl⟩ <;> rfl
  refine ⟨_, hexec, ?_, s.storesOneByte_push v⟩
  rw [State.push_eq]
  rfl

/-- Settles O49: one pop each, whose read is the bus read of the cell above SP. -/
theorem pullInstructions : Obligations.PullInstructions := by
  intro s cell hcell
  rw [← stackAddr_succ_eq] at hcell
  subst hcell
  refine ⟨⟨_, exec_of_shape .pla, ?_, ?_⟩, (exec_of_shape .plp).trans ?_⟩
  · rw [State.afterPop_eq_setSP]
    ext1 <;> simp [State.popByte_eq]
  · rw [State.afterPop_eq]
    exact flagsAfter_withZN s.ps s.popByte
  · rw [State.afterPop_eq_setSP]
    congr 1
    ext1 <;> simp [State.popByte_eq]

/-- Settles O50: a 16-bit push and the jump. -/
theorem jsrPushesItsLastByteAddress : Obligations.JsrPushesItsLastByteAddress := by
  intro s target ret hi lo hret hhi hlo
  subst hret hhi hlo
  refine ⟨_, exec_of_shape (.jsr target), ?_, fun b => ?_⟩ <;> rw [State.pushWord_eq]
  · ext1 <;> simp
    exact sub_one_sub_one s.sp
  · exact s.read_push_push _ _ b

/-- Settles O51: a 16-bit pop, and PC one past the word. -/
theorem rtsReturnsPastThePulledAddress : Obligations.RtsReturnsPastThePulledAddress := by
  intro s
  refine ⟨_, exec_of_shape .rts, ?_, ?_⟩
  · rw [State.afterPopWord_eq]
    rfl
  · rw [← State.popWord_toNat]
    exact BitVec.toNat_add s.popWord 1

/-- Settles O52: three pops: the status, then the word. -/
theorem rtiRestoresStatusAndPc : Obligations.RtiRestoresStatusAndPc := by
  intro s
  refine ⟨_, exec_of_shape .rti, ?_, ?_⟩ <;> rw [State.returnFromTrap_eq]
  · rfl
  · have hword := s.afterPop.popWord_toNat
    rwa [State.afterPop_sp, add_one_add_one, BitVec.add_assoc] at hword

/-- Settles O53: trap entry with its three pushes named, then the event and the halt. -/
theorem brkEntersTheTrapAndHalts : Obligations.BrkEntersTheTrapAndHalts := by
  intro s pushed ret hi lo status hret hhi hlo hstatus hpushed
  subst hret hhi hlo hstatus
  have htrap := s.enterTrap_eq pushed (s.pc - 1) (by rw [hpushed, State.pushWord_eq]; rfl)
  refine ⟨_, exec_of_shape .brk, ?_, ?_, ?_, fun b => ?_⟩ <;> rw [htrap]
  · rfl
  · exact flagsAfter_setFlag s.ps .I true
  · exact pushed.busPair_toNat _ _
  · rw [hpushed]
    exact s.read_push_push_push _ _ _ b

/-- The second byte of an indirect JMP's pointer stays in the pointer's page (40_engine_and_addressing.md R119). -/
theorem samePageNext_toNat (p : Word) : (samePageNext p).toNat = p.toNat / 256 * 256 + (p.toNat + 1) % 256 := by
  rw [samePageNext, wordOf_toNat, highByte_toNat, BitVec.toNat_add, lowByte_toNat]
  exact congrArg _ (Nat.mod_add_mod _ _ _)

/-- Settles O54: the pointer given is the one that stays in its page, and its word is PC. -/
theorem jumpsLoadPc : Obligations.JumpsLoadPc := by
  refine ⟨fun _ _ => rfl, fun s p p' hp' => ?_⟩
  obtain rfl : p' = samePageNext p := BitVec.eq_of_toNat_eq (hp'.trans (samePageNext_toNat p).symm)
  refine ⟨_, exec_of_shape (.jmpInd p), ?_, s.busPair_toNat p (samePageNext p)⟩
  rw [State.afterIndirect, State.afterPair_eq]
  rfl

end Sys2Proof.Machine
end

section
/-! What is pushed is pulled again (48_stack_control.md): the pops read the cells the pushes wrote, where those are RAM,
in any state `u` with the SP, memory and configuration the pushes left. -/

namespace Sys2Proof.Machine

variable {s t u : State}

/-- A read of a stack cell in RAM answers its byte of memory. -/
theorem State.busByte_stackAddr_of_ram {sp : Byte} (h : regionOf s.cfg (stackAddr sp) = .ram) :
    s.busByte (stackAddr sp) = s.mem.read (stackAddr sp).toNat :=
  s.busByte_of_not_mmio _ (by simp [h])

/-- The byte pushed is the byte popped (R200, R201). -/
theorem State.popByte_of_push {v : Byte} (hram : regionOf s.cfg (stackAddr s.sp) = .ram)
    (hmem : u.mem = (s.push v).mem) (hsp : u.sp = s.sp - 1) (hcfg : u.cfg = s.cfg) : u.popByte = v := by
  have hcell : u.sp + 1 = s.sp := by
    rw [hsp]
    bv_omega
  rw [State.popByte_eq, hcell, State.busByte_stackAddr_of_ram (hcfg ▸ hram), hmem, State.read_push,
    if_pos ⟨hram, rfl⟩]

theorem State.pushWord_sp (s : State) (w : Word) : (s.pushWord w).sp = s.sp - 2 := by
  rw [State.pushWord, State.push_sp, State.push_sp, sub_one_sub_one]

/-- A 16-bit push leaves the low byte in the lower of its two cells, the high byte in the upper (R202). -/
theorem State.read_pushWord (w : Word) (hlo : regionOf s.cfg (stackAddr (s.sp - 1)) = .ram)
    (hhi : regionOf s.cfg (stackAddr s.sp) = .ram) :
    (s.pushWord w).mem.read (stackAddr (s.sp - 1)).toNat = lowByte w
      ∧ (s.pushWord w).mem.read (stackAddr s.sp).toNat = highByte w := by
  have hne := (stackAddr_sub_one_ne s.sp).symm
  constructor
  · rw [State.pushWord, State.read_push_push, if_pos ⟨hlo, rfl⟩]
  · rw [State.pushWord, State.read_push_push, if_neg (fun ⟨_, h⟩ => hne h), if_pos ⟨hhi, rfl⟩]

/-- The word whose bytes stand in the two cells above SP is the word popped (R202). -/
theorem State.popWord_of_cells {sp : Byte} {w : Word} (hlo : regionOf u.cfg (stackAddr (sp - 1)) = .ram)
    (hhi : regionOf u.cfg (stackAddr sp) = .ram) (hsp : u.sp = sp - 2)
    (hreads : u.mem.read (stackAddr (sp - 1)).toNat = lowByte w ∧ u.mem.read (stackAddr sp).toNat = highByte w) :
    u.popWord = w := by
  obtain ⟨hlow, hhigh⟩ := hreads
  have hcell₁ : u.sp + 1 = sp - 1 := by
    rw [hsp]
    bv_omega
  have hcell₂ : u.sp + 2 = sp := by
    rw [hsp]
    bv_omega
  rw [State.popWord, State.popByte_afterPop, State.popByte_eq, hcell₁, hcell₂, State.busByte_stackAddr_of_ram hlo,
    State.busByte_stackAddr_of_ram (by rwa [State.afterPop_cfg]), State.afterPop_mem, hlow, hhigh,
    wordOf_highByte_lowByte]

/-- Settles O57: RTS pops the word JSR pushed, and adds the 1 JSR took off. -/
theorem jsrThenRtsReturns : Obligations.JsrThenRtsReturns := by
  intro s t u target hhi hlo hjsr hmem hsp hcfg
  obtain rfl := exec_next_unique _ _ _ _ hjsr (exec_of_shape (.jsr target))
  replace hmem : u.mem = (s.pushWord (s.pc - 1)).mem := hmem
  replace hcfg : u.cfg = s.cfg := hcfg.trans (State.pushWord_cfg s _)
  replace hsp : u.sp = s.sp - 2 := hsp.trans (State.pushWord_sp s _)
  have hword : u.popWord = s.pc - 1 :=
    State.popWord_of_cells (hcfg ▸ hlo) (hcfg ▸ hhi) hsp (hmem ▸ State.read_pushWord (s.pc - 1) hlo hhi)
  refine ⟨_, exec_of_shape .rts, ?_, ?_⟩
  · simp [hword]
  · simp [State.afterPopWord_eq, hsp]

/-- PS with bit 4 set is PS with the flag B (10_state.md R15, 48_stack_control.md R205). -/
theorem flagsAfter_pushedStatus (ps : Byte) : FlagsAfter ps (pushedStatus ps) [(.B, true)] :=
  flagsAfter_setFlag ps .B true

/-- Settles O58: the byte popped is the byte pushed. -/
theorem pushThenPullRoundTrips : Obligations.PushThenPullRoundTrips := by
  intro s t u hram hmem hsp hcfg
  constructor
  · intro hpha
    obtain rfl := exec_next_unique _ _ _ _ hpha (exec_of_shape .pha)
    replace hcfg : u.cfg = s.cfg := hcfg.trans (State.push_cfg s _)
    refine ⟨_, exec_of_shape .pla, State.popByte_of_push hram hmem hsp hcfg, ?_⟩
    simp [hsp]
  · intro hphp
    obtain rfl := exec_next_unique _ _ _ _ hphp (exec_of_shape .php)
    replace hcfg : u.cfg = s.cfg := hcfg.trans (State.push_cfg s _)
    have hbyte : u.popByte = pushedStatus s.ps := State.popByte_of_push hram hmem hsp hcfg
    refine ⟨_, exec_of_shape .plp, hbyte ▸ flagsAfter_pushedStatus s.ps, ?_⟩
    simp [hsp]

/-- Settles O59: the status is pulled from the lowest cell, then the word from the two above it. -/
theorem brkThenRtiReturns : Obligations.BrkThenRtiReturns := by
  intro s t u hhi hlo hstatus hbrk hmem hsp hcfg
  obtain rfl := exec_next_unique _ _ _ _ hbrk (exec_of_shape .brk)
  have htrap := s.enterTrap_eq _ (s.pc - 1) rfl
  rw [htrap] at hmem hsp hcfg
  replace hmem : u.mem = ((s.pushWord (s.pc - 1 + 2)).push (pushedStatus s.ps)).mem := hmem
  replace hsp : u.sp = s.sp - 3 := hsp
  replace hcfg : u.cfg = s.cfg := hcfg
  have hbyte : u.popByte = pushedStatus s.ps := by
    refine State.popByte_of_push ?_ hmem ?_ (hcfg.trans (State.pushWord_cfg s _).symm)
    · rwa [State.pushWord_cfg, State.pushWord_sp]
    · rw [hsp, State.pushWord_sp]
      bv_omega
  have hword : u.afterPop.popWord = s.pc - 1 + 2 := by
    refine State.popWord_of_cells (sp := s.sp) (by simpa [hcfg] using hlo) (by simpa [hcfg] using hhi) ?_ ?_
    · rw [State.afterPop_sp, hsp]
      bv_omega
    · rw [State.afterPop_mem, hmem, State.read_push, State.read_push, State.pushWord_sp,
        if_neg (fun ⟨_, h⟩ => stackAddr_sub_two_ne_sub_one s.sp h.symm),
        if_neg (fun ⟨_, h⟩ => stackAddr_sub_two_ne s.sp h.symm)]
      exact State.read_pushWord _ hlo hhi
  refine ⟨_, exec_of_shape .rti, ?_, ?_, ?_⟩ <;> rw [State.returnFromTrap_eq]
  · exact hword
  · simp [hsp]
  · exact hbyte ▸ flagsAfter_pushedStatus s.ps

end Sys2Proof.Machine
end

section
/-! Execute neither reads nor writes BUDGET and TOTAL, and only appends to LOG (40_engine_and_addressing.md R103): every
operation commutes with putting other counters and another history in front. -/

namespace Sys2Proof.Machine

/-- The state with these counters, and with the events `l` before those it has. -/
def State.withHistory (b : Int) (n : Nat) (l : List Event) (s : State) : State :=
  { s with budget := b, total := n, log := l ++ s.log }

/-- The state with nothing counted and nothing logged. -/
def State.withoutHistory (s : State) : State :=
  { s with budget := 0, total := 0, log := [] }

section
variable (b : Int) (n : Nat) (l : List Event) (s : State)

/-! ### Registers -/

@[simp] theorem State.withHistory_a : (s.withHistory b n l).a = s.a := rfl
@[simp] theorem State.withHistory_x : (s.withHistory b n l).x = s.x := rfl
@[simp] theorem State.withHistory_y : (s.withHistory b n l).y = s.y := rfl
@[simp] theorem State.withHistory_sp : (s.withHistory b n l).sp = s.sp := rfl
@[simp] theorem State.withHistory_ps : (s.withHistory b n l).ps = s.ps := rfl
@[simp] theorem State.withHistory_pc : (s.withHistory b n l).pc = s.pc := rfl

@[simp] theorem State.setA_withHistory (v : Byte) : (s.withHistory b n l).setA v = (s.setA v).withHistory b n l := rfl
@[simp] theorem State.setX_withHistory (v : Byte) : (s.withHistory b n l).setX v = (s.setX v).withHistory b n l := rfl
@[simp] theorem State.setY_withHistory (v : Byte) : (s.withHistory b n l).setY v = (s.setY v).withHistory b n l := rfl
@[simp] theorem State.setSP_withHistory (v : Byte) :
    (s.withHistory b n l).setSP v = (s.setSP v).withHistory b n l := rfl
@[simp] theorem State.setPS_withHistory (v : Byte) :
    (s.withHistory b n l).setPS v = (s.setPS v).withHistory b n l := rfl
@[simp] theorem State.setZN_withHistory (v : Byte) :
    (s.withHistory b n l).setZN v = (s.setZN v).withHistory b n l := rfl
@[simp] theorem State.setPC_withHistory (w : Word) :
    (s.withHistory b n l).setPC w = (s.setPC w).withHistory b n l := rfl
@[simp] theorem State.setExtra_withHistory (k : Nat) :
    (s.withHistory b n l).setExtra k = (s.setExtra k).withHistory b n l := rfl
@[simp] theorem State.flag_withHistory (f : Flag) : (s.withHistory b n l).flag f = s.flag f := rfl
@[simp] theorem State.putFlag_withHistory (f : Flag) (v : Bool) :
    (s.withHistory b n l).putFlag f v = (s.putFlag f v).withHistory b n l := rfl
@[simp] theorem State.raiseHalt_withHistory (r : HaltReason) :
    (s.withHistory b n l).raiseHalt r = (s.raiseHalt r).withHistory b n l := rfl

/-! ### Bus transactions -/

/-- An event is appended behind the history put in front. -/
@[simp] theorem State.emit_withHistory (e : Event) :
    (s.withHistory b n l).emit e = (s.emit e).withHistory b n l := by
  simp [State.emit, State.withHistory]

@[simp] theorem State.busByte_withHistory (a : Word) : (s.withHistory b n l).busByte a = s.busByte a := rfl

@[simp] theorem State.afterRead_withHistory (a : Word) :
    (s.withHistory b n l).afterRead a = (s.afterRead a).withHistory b n l := by
  by_cases hr : regionOf s.cfg a = .mmio
  · cases hm : s.mayMmio with
    | false =>
      rw [State.afterRead_of_denied hr hm, State.afterRead_of_denied (s := s.withHistory b n l) hr hm,
        State.emit_withHistory]
    | true =>
      cases hd : firstDevice s.cfg a with
      | none =>
        rw [State.afterRead_of_unmatched hr hm hd,
          State.afterRead_of_unmatched (s := s.withHistory b n l) hr hm hd, State.emit_withHistory]
      | some i =>
        rw [State.afterRead_of_device hr hm hd, State.afterRead_of_device (s := s.withHistory b n l) hr hm hd]
        exact s.drawn.emit_withHistory b n l _
  · rw [s.afterRead_of_not_mmio a hr, (s.withHistory b n l).afterRead_of_not_mmio a hr]

@[simp] theorem State.busWrite_withHistory (a : Word) (v : Byte) :
    (s.withHistory b n l).busWrite a v = (s.busWrite a v).withHistory b n l := by
  cases hr : regionOf s.cfg a with
  | ram =>
    rw [State.busWrite_of_ram hr, State.busWrite_of_ram (s := s.withHistory b n l) hr]
    rfl
  | rom => rw [State.busWrite_of_rom hr, State.busWrite_of_rom (s := s.withHistory b n l) hr, State.emit_withHistory]
  | mmio =>
    cases hm : s.mayMmio with
    | false =>
      rw [State.busWrite_of_denied hr hm, State.busWrite_of_denied (s := s.withHistory b n l) hr hm,
        State.emit_withHistory]
    | true =>
      cases hd : firstDevice s.cfg a with
      | none =>
        rw [State.busWrite_of_unmatched hr hm hd,
          State.busWrite_of_unmatched (s := s.withHistory b n l) hr hm hd, State.emit_withHistory]
      | some i =>
        rw [State.busWrite_of_device hr hm hd, State.busWrite_of_device (s := s.withHistory b n l) hr hm hd,
          State.emit_withHistory]

@[simp] theorem State.busPair_withHistory (lo hi : Word) :
    (s.withHistory b n l).busPair lo hi = s.busPair lo hi := by
  simp [State.busPair]

@[simp] theorem State.afterPair_withHistory (lo hi : Word) :
    (s.withHistory b n l).afterPair lo hi = (s.afterPair lo hi).withHistory b n l := by
  simp [State.afterPair]

/-! ### The stack -/

@[simp] theorem State.push_withHistory (v : Byte) :
    (s.withHistory b n l).push v = (s.push v).withHistory b n l := by
  simp [State.push]

@[simp] theorem State.popByte_withHistory : (s.withHistory b n l).popByte = s.popByte := rfl

@[simp] theorem State.afterPop_withHistory :
    (s.withHistory b n l).afterPop = s.afterPop.withHistory b n l := by
  simp [State.afterPop]

@[simp] theorem State.pushWord_withHistory (w : Word) :
    (s.withHistory b n l).pushWord w = (s.pushWord w).withHistory b n l := by
  simp [State.pushWord]

@[simp] theorem State.popWord_withHistory : (s.withHistory b n l).popWord = s.popWord := by
  simp [State.popWord]

@[simp] theorem State.afterPopWord_withHistory :
    (s.withHistory b n l).afterPopWord = s.afterPopWord.withHistory b n l := by
  simp [State.afterPopWord]

/-! ### Operands -/

@[simp] theorem State.eaBase_withHistory (m : MemForm) : (s.withHistory b n l).eaBase m = s.eaBase m := by
  cases m <;> simp [State.eaBase]

@[simp] theorem State.ea_withHistory (m : MemForm) : (s.withHistory b n l).ea m = s.ea m := by
  cases m <;> simp [State.ea]

@[simp] theorem State.crossed_withHistory (m : MemForm) : (s.withHistory b n l).crossed m = s.crossed m := by
  cases m <;> simp [State.crossed]

@[simp] theorem State.afterEa_withHistory (m : MemForm) :
    (s.withHistory b n l).afterEa m = (s.afterEa m).withHistory b n l := by
  cases m <;> simp [State.afterEa, State.pointerByte]

@[simp] theorem State.cellByte_withHistory (m : MemForm) : (s.withHistory b n l).cellByte m = s.cellByte m := by
  simp [State.cellByte]

@[simp] theorem State.afterCell_withHistory (m : MemForm) :
    (s.withHistory b n l).afterCell m = (s.afterCell m).withHistory b n l := by
  simp [State.afterCell]

@[simp] theorem State.operandByte_withHistory (f : ReadForm) :
    (s.withHistory b n l).operandByte f = s.operandByte f := by
  cases f <;> simp [State.operandByte]

@[simp] theorem State.afterOperand_withHistory (f : ReadForm) :
    (s.withHistory b n l).afterOperand f = (s.afterOperand f).withHistory b n l := by
  cases f <;> simp [State.afterOperand]

@[simp] theorem State.readPenalty_withHistory (f : ReadForm) :
    (s.withHistory b n l).readPenalty f = s.readPenalty f := by
  cases f <;> simp [State.readPenalty]

@[simp] theorem State.storePenalty_withHistory (m : MemForm) :
    (s.withHistory b n l).storePenalty m = s.storePenalty m := rfl

@[simp] theorem State.shift_withHistory (f : RmwForm) (g : Byte → Bool → Byte × Bool) :
    (s.withHistory b n l).shift f g = (s.shift f g).withHistory b n l := by
  cases f <;> simp [State.shift, State.shiftFlags]

@[simp] theorem State.branch_withHistory (c : Bool) (off : Byte) :
    (s.withHistory b n l).branch c off = (s.branch c off).withHistory b n l := by
  cases c <;> rfl

end

/-! ### Execute -/

variable {s t : State} {i : Instr}

/-- Execute commutes with putting other counters and another history in front. -/
theorem ExecShape.exec_withHistory (h : ExecShape s i t) (b : Int) (n : Nat) (l : List Event) :
    exec i (s.withHistory b n l) = .next (t.withHistory b n l) := by
  cases h with
  | lda _ f hm ho => exact (exec_of_shape (.lda i f hm ho)).trans (by simp [State.lda])
  | ldx _ f hm ho => exact (exec_of_shape (.ldx i f hm ho)).trans (by simp [State.ldx])
  | ldy _ f hm ho => exact (exec_of_shape (.ldy i f hm ho)).trans (by simp [State.ldy])
  | adc _ f hm ho => exact (exec_of_shape (.adc i f hm ho)).trans (by simp [State.adc, State.addCore])
  | sbc _ f hm ho => exact (exec_of_shape (.sbc i f hm ho)).trans (by simp [State.sbc, State.addCore])
  | bit _ f hm ho => exact (exec_of_shape (.bit i f hm ho)).trans (by simp [State.bit])
  | cmp _ f hm ho => exact (exec_of_shape (.cmp i f hm ho)).trans (by simp [State.cmp, State.compare])
  | cpx _ f hm ho => exact (exec_of_shape (.cpx i f hm ho)).trans (by simp [State.cpx, State.compare])
  | cpy _ f hm ho => exact (exec_of_shape (.cpy i f hm ho)).trans (by simp [State.cpy, State.compare])
  | and_ _ f hm ho => exact (exec_of_shape (.and_ i f hm ho)).trans (by simp [State.and, State.logicResult])
  | ora_ _ f hm ho => exact (exec_of_shape (.ora_ i f hm ho)).trans (by simp [State.ora, State.logicResult])
  | eor_ _ f hm ho => exact (exec_of_shape (.eor_ i f hm ho)).trans (by simp [State.eor, State.logicResult])
  | sta _ m hm ho => exact (exec_of_shape (.sta i m hm ho)).trans (by simp [State.sta, State.storeByte])
  | stx _ m hm ho => exact (exec_of_shape (.stx i m hm ho)).trans (by simp [State.stx, State.storeByte])
  | sty _ m hm ho => exact (exec_of_shape (.sty i m hm ho)).trans (by simp [State.sty, State.storeByte])
  | inc _ m hm ho => exact (exec_of_shape (.inc i m hm ho)).trans (by simp [State.inc, State.bumpCell])
  | dec _ m hm ho => exact (exec_of_shape (.dec i m hm ho)).trans (by simp [State.dec, State.bumpCell])
  | asl _ f hm ho => exact (exec_of_shape (.asl i f hm ho)).trans (by simp [State.asl])
  | lsr _ f hm ho => exact (exec_of_shape (.lsr i f hm ho)).trans (by simp [State.lsr])
  | rol _ f hm ho => exact (exec_of_shape (.rol i f hm ho)).trans (by simp [State.rol])
  | ror _ f hm ho => exact (exec_of_shape (.ror i f hm ho)).trans (by simp [State.ror])
  | bcc off | bcs off | beq off | bne off | bmi off | bpl off | bvc off | bvs off =>
    exact congrArg Host.Outcome.next (s.branch_withHistory b n l _ off)
  | pha => exact (exec_of_shape .pha).trans (by simp)
  | php => exact (exec_of_shape .php).trans (by simp)
  | pla => exact (exec_of_shape .pla).trans (by simp)
  | plp => exact (exec_of_shape .plp).trans (by simp)
  | jsr target => exact (exec_of_shape (.jsr target)).trans (by simp)
  | rts => exact (exec_of_shape .rts).trans (by simp)
  | rti => exact (exec_of_shape .rti).trans (by simp [State.returnFromTrap])
  | brk => exact (exec_of_shape .brk).trans (by simp [State.enterTrap])
  | jmpInd p => exact (exec_of_shape (.jmpInd p)).trans (by simp [State.afterIndirect, State.indirectTarget])
  | _ => rfl

/-- Settles O20: both runs are the run with nothing counted and nothing logged, put behind a history. -/
theorem executeIgnoresCountersAndLog : Obligations.ExecuteIgnoresCountersAndLog := by
  intro i s t b n l h
  obtain ⟨u, -, shape⟩ := exec_shape i s.withoutHistory
  have hs : s.withoutHistory.withHistory s.budget s.total s.log = s := by
    simp [State.withoutHistory, State.withHistory]
  have hown := shape.exec_withHistory s.budget s.total s.log
  rw [hs] at hown
  have ht : t = u.withHistory s.budget s.total s.log := exec_next_unique i s t _ h hown
  have hother := shape.exec_withHistory b n l
  simpa [ht, State.withoutHistory, State.withHistory] using hother

end Sys2Proof.Machine
end
